-- ==== Sys2Proof/Word.lean ====
section
/-!
DEFINITION. The two plain widths of the block: the byte every access moves (R11, R50) and the opaque baud operand (R79).
-/

namespace Sys2Proof

/-- A byte: an unsigned integer in 0..255, bits numbered 7 down to 0 (R11). -/
abbrev Byte := BitVec 8

/-- The opaque argument of `configure_uart`. No rule reads its value (R10); the width is the model's (log entry 6). -/
abbrev Baud := BitVec 32

end Sys2Proof
end

