-- ==== Sys2Proof/Syntax.lean ====
section
/-!
DEFINITION. The syntax: one constructor of `Instr` for each of the 27 rows of spec/opcode_table.json, and the
lines of the script that says which agent moves next (R14, R86).
-/

namespace Sys2Proof

/-- The buffer selector of a ring primitive, and the name of a storage address space (R50, R79). -/
inductive Buffer where
  | rx
  | tx
  deriving DecidableEq, Repr, Inhabited

/-- A set over the four names of realtime requests: the latch itself (R28) and the mask operand and the result of
`rt_test_and_clear` (R81). -/
structure RtFlags where
  statusReport : Bool
  cycleStart : Bool
  feedHold : Bool
  safetyDoor : Bool
  deriving DecidableEq, Repr, Inhabited

/-- The instructions: six received bytes by class (R72), three transmitted bytes by kind (R74), eighteen operations
(R82), in the order of the opcode table. -/
inductive Instr where
  | rxStatusReport
  | rxCycleStart
  | rxFeedHold
  | rxSafetyDoor
  | rxReset
  | rxForward (b : Byte)
  | txPause
  | txResume
  | txData (v : Byte)
  | init (baud : Baud)
  | writeByte (b : Byte)
  | readByte
  | resetReadBuffer
  | onRxReady
  | onTxReady
  | rtTestAndClear (m : RtFlags)
  | tryPush (buf : Buffer) (b : Byte)
  | tryPop (buf : Buffer)
  | occupancy (buf : Buffer)
  | reset (buf : Buffer)
  | classify (b : Byte)
  | configureUart (baud : Baud)
  | hardwareSendByte (v : Byte)
  | hardwareReceiveByte
  | enableTxInterrupt
  | disableTxInterrupt
  | invokeEmergencyReset
  deriving DecidableEq, Repr, Inhabited

/-- The operations MAIN issues (R32). -/
inductive MainOp where
  | init (baud : Baud)
  | writeByte (b : Byte)
  | readByte
  | resetReadBuffer
  | rtTestAndClear (m : RtFlags)
  deriving DecidableEq, Repr, Inhabited

/-- The labels of MAIN's micro-steps (R33); `init` and `rt` are the single steps of `init` and `rt_test_and_clear`. -/
inductive MicroStep where
  | init
  | w1 | w2 | w3 | w4 | w5 | w6
  | rd1 | rd2 | rd3 | rd4 | rd5 | rd6
  | rs1 | rs2 | rs3
  | rt
  deriving DecidableEq, Repr, Inhabited

/-- One step of one agent (R14, R60): MAIN starts an operation or takes one micro-step, the arbiter invokes a handler,
or ENV appends a byte, drives `tx_ready`, or drives `abort` (R191). -/
inductive Move where
  | start (op : MainOp)
  | main
  | irqRx
  | irqTx
  | envRx (b : Byte)
  | envTxReady (v : Bool)
  | envAbort (v : Bool)
  deriving DecidableEq, Repr, Inhabited

/-- A line of a script (R86). `word` is a line given by its encoding, the others have no encoding. -/
inductive Line where
  | word (bytes : List Byte)
  | move (m : Move)
  | opTo (op : MainOp) (label : MicroStep)
  | continueTo (label : MicroStep)
  | continueRest
  deriving DecidableEq, Repr, Inhabited

end Sys2Proof
end

