-- ==== Sys2Proof/Config.lean ====
section
/-!
DEFINITION. What an implementation fixes: the parameters of R6 to R10 with their defaults; and the free values, each
an opaque constant that nothing can evaluate.
-/

namespace Sys2Proof

/-- The implementation parameters (R6 to R10), fixed at build time and never written (R38). They ride in State so that
a statement about every state is a statement about every choice of parameters (log entry 1). -/
structure Params where
  rxN : Nat
  txN : Nat
  highWatermark : Nat
  lowWatermark : Nat
  xonxoffEnable : Bool
  cmdStatusReport : Byte
  cmdCycleStart : Byte
  cmdFeedHold : Byte
  cmdSafetyDoor : Byte
  cmdReset : Byte
  pauseByte : Byte
  resumeByte : Byte
  noData : Byte
  bitStatusReport : Nat
  bitCycleStart : Nat
  bitFeedHold : Nat
  bitSafetyDoor : Nat
  deriving DecidableEq, Repr, Inhabited

/-- The defaults: capacities R6, watermarks R7, byte values R9, sentinel and flag positions R10.
`XONXOFF_ENABLE` has no default in the spec (R8, D14); DESIGN CHOICE: `true` (log entry 2). -/
def Params.default : Params where
  rxN := 128
  txN := 64
  highWatermark := 100
  lowWatermark := 20
  xonxoffEnable := true
  cmdStatusReport := 0x3F
  cmdCycleStart := 0x7E
  cmdFeedHold := 0x21
  cmdSafetyDoor := 0x40
  cmdReset := 0x18
  pauseByte := 0x13
  resumeByte := 0x11
  noData := 0xFF
  bitStatusReport := 0
  bitCycleStart := 1
  bitFeedHold := 3
  bitSafetyDoor := 5

/-- The capacity `B.N` of a buffer (R12). -/
def Params.cap (p : Params) : Buffer → Nat
  | .rx => p.rxN
  | .tx => p.txN

namespace Config

/-- Free value: what a storage slot that nothing has written since reset reads as (R30, U4; log entry 3). -/
opaque freeByte : Buffer → Nat → Byte

/-- Free value: the byte `hardware_receive_byte` answers when nothing has been received (log entry 15). -/
opaque freeReceived : Nat → Byte

/-- Free value: which agent moves next, and how, when the script names none (R208, R212, R213; log entry 5). -/
opaque freeMove : Nat → Move

end Config

end Sys2Proof
end

