-- ==== Sys2Proof/WellFormed.lean ====
section
/-!
DEFINITION. The checks: legal parameters (R234, with the positions of R10), and well-formed instructions (R72).
-/

namespace Sys2Proof

/-- `RX_N >= 2` and `TX_N >= 2` (R6). -/
def Params.capacitiesOk (p : Params) : Bool :=
  decide (2 ≤ p.rxN) && decide (2 ≤ p.txN)

/-- `1 <= LOW_WATERMARK < HIGH_WATERMARK < RX_N - 1`, asked only when flow control is built in (R7, R234). -/
def Params.watermarksOk (p : Params) : Bool :=
  !p.xonxoffEnable ||
    (decide (1 ≤ p.lowWatermark) && decide (p.lowWatermark < p.highWatermark) && decide (p.highWatermark < p.rxN - 1))

/-- The five command bytes (R9). -/
def Params.commands (p : Params) : List Byte :=
  [p.cmdStatusReport, p.cmdCycleStart, p.cmdFeedHold, p.cmdSafetyDoor, p.cmdReset]

/-- The five `CMD_*` values are pairwise distinct (R9). -/
def Params.commandsOk (p : Params) : Bool :=
  decide p.commands.Nodup

/-- `PAUSE_BYTE != RESUME_BYTE` (R9). -/
def Params.controlsOk (p : Params) : Bool :=
  p.pauseByte != p.resumeByte

/-- The four flag positions are pairwise distinct (R10). -/
def Params.positionsOk (p : Params) : Bool :=
  decide [p.bitStatusReport, p.bitCycleStart, p.bitFeedHold, p.bitSafetyDoor].Nodup

/-- Legal parameters (R234). A model is not instantiated with others (U8). -/
def Params.wf (p : Params) : Bool :=
  p.capacitiesOk && p.watermarksOk && p.commandsOk && p.controlsOk && p.positionsOk

/-- A received byte is one of the five commands (R72, first five rows). -/
def Params.isCommand (p : Params) (b : Byte) : Bool :=
  p.commands.contains b

/-- A well-formed instruction. Every operand value is legal (R79) but one kind: `RX.FORWARD` carries one of the 251
values that are no command (R72, R77). -/
def Instr.wf (p : Params) : Instr → Bool
  | .rxForward b => !p.isCommand b
  | .rxStatusReport => true
  | .rxCycleStart => true
  | .rxFeedHold => true
  | .rxSafetyDoor => true
  | .rxReset => true
  | .txPause => true
  | .txResume => true
  | .txData _ => true
  | .init _ => true
  | .writeByte _ => true
  | .readByte => true
  | .resetReadBuffer => true
  | .onRxReady => true
  | .onTxReady => true
  | .rtTestAndClear _ => true
  | .tryPush _ _ => true
  | .tryPop _ => true
  | .occupancy _ => true
  | .reset _ => true
  | .classify _ => true
  | .configureUart _ => true
  | .hardwareSendByte _ => true
  | .hardwareReceiveByte => true
  | .enableTxInterrupt => true
  | .disableTxInterrupt => true
  | .invokeEmergencyReset => true

end Sys2Proof
end

