-- ==== Sys2Proof/Decode.lean ====
section
/-!
DEFINITION. The decoder of an encoded line, total on any list of bytes and rejecting by name, and the encoder.

A line is eight bytes: the opcode byte of the table, the operand byte, the buffer selector (RX = 0, TX = 1), the format
mark, and the four bytes of BAUD, least significant first. Opcode byte, operand byte and selector bit are R83; the mark
and the places of the rest are the model's own (log entry 6).
-/

namespace Sys2Proof

/-- Why a line decodes to nothing. -/
inductive Reject where
  /-- The line is not eight bytes. -/
  | badLength
  /-- The format mark is none of the five. -/
  | badMark
  /-- An `OP` selector outside the table of R82 names no operation (R77). -/
  | noSuchOperation
  /-- A field the operation does not use is not zero, or the mask or the buffer selector has a bit that names nothing. -/
  | reservedBits
  deriving DecidableEq, Repr

/-- What the decoder answers. -/
inductive Decoded where
  | ok (i : Instr)
  | reject (r : Reject)
  deriving DecidableEq, Repr

/-- The fields of a line. -/
structure Fields where
  op : Byte
  arg : Byte
  buf : Byte
  mark : Byte
  baud : Baud
  deriving DecidableEq, Repr

/-- An operation without operands. -/
def Fields.plain (f : Fields) (i : Instr) : Decoded :=
  if f.arg = 0 ∧ f.buf = 0 ∧ f.baud = 0 then .ok i else .reject .reservedBits

/-- An operation with one byte operand (R83, second 8-bit field). -/
def Fields.withByte (f : Fields) (k : Byte → Instr) : Decoded :=
  if f.buf = 0 ∧ f.baud = 0 then .ok (k f.arg) else .reject .reservedBits

/-- An operation whose operand is the opaque BAUD. -/
def Fields.withBaud (f : Fields) (k : Baud → Instr) : Decoded :=
  if f.arg = 0 ∧ f.buf = 0 then .ok (k f.baud) else .reject .reservedBits

/-- The buffer selector of a ring primitive: one bit, RX = 0, TX = 1 (R83). -/
def Fields.buffer? (f : Fields) : Option Buffer :=
  if f.buf = 0 then some .rx else if f.buf = 1 then some .tx else none

/-- A ring primitive without a byte operand. -/
def Fields.withBuffer (f : Fields) (k : Buffer → Instr) : Decoded :=
  match f.buffer? with
  | some b => if f.arg = 0 ∧ f.baud = 0 then .ok (k b) else .reject .reservedBits
  | none => .reject .reservedBits

/-- A ring primitive with a byte operand. -/
def Fields.withBufferByte (f : Fields) (k : Buffer → Byte → Instr) : Decoded :=
  match f.buffer? with
  | some b => if f.baud = 0 then .ok (k b f.arg) else .reject .reservedBits
  | none => .reject .reservedBits

/-- The mask operand of `rt_test_and_clear` in the low four bits of the operand byte, in the order of R28's names
(log entry 6). -/
def maskOfByte (a : Byte) : RtFlags :=
  ⟨a.getLsbD 0, a.getLsbD 1, a.getLsbD 2, a.getLsbD 3⟩

/-- The operand byte of a mask. -/
def byteOfMask (m : RtFlags) : Byte :=
  (if m.statusReport then 1 else 0) ||| (if m.cycleStart then 2 else 0) |||
    (if m.feedHold then 4 else 0) ||| (if m.safetyDoor then 8 else 0)

/-- An operation whose operand is a set of flags. -/
def Fields.withMask (f : Fields) (k : RtFlags → Instr) : Decoded :=
  if f.arg < 16 ∧ f.buf = 0 ∧ f.baud = 0 then .ok (k (maskOfByte f.arg)) else .reject .reservedBits

/-- The `OP` format: the selector table of R82. -/
def decodeOp (f : Fields) : Decoded :=
  match f.op.toNat with
  | 0x00 => f.withBaud .init
  | 0x01 => f.withByte .writeByte
  | 0x02 => f.plain .readByte
  | 0x03 => f.plain .resetReadBuffer
  | 0x04 => f.plain .onRxReady
  | 0x05 => f.plain .onTxReady
  | 0x06 => f.withMask .rtTestAndClear
  | 0x08 => f.withBufferByte .tryPush
  | 0x09 => f.withBuffer .tryPop
  | 0x0A => f.withBuffer .occupancy
  | 0x0B => f.withBuffer .reset
  | 0x0C => f.withByte .classify
  | 0x10 => f.withBaud .configureUart
  | 0x11 => f.withByte .hardwareSendByte
  | 0x12 => f.plain .hardwareReceiveByte
  | 0x13 => f.plain .enableTxInterrupt
  | 0x14 => f.plain .disableTxInterrupt
  | 0x15 => f.plain .invokeEmergencyReset
  | _ => .reject .noSuchOperation

/-- The `RXBYTE` format: the whole byte against each of the five commands, else `RX.FORWARD` (R71, R72). -/
def rxInstr (p : Params) (b : Byte) : Instr :=
  if b = p.cmdStatusReport then .rxStatusReport
  else if b = p.cmdCycleStart then .rxCycleStart
  else if b = p.cmdFeedHold then .rxFeedHold
  else if b = p.cmdSafetyDoor then .rxSafetyDoor
  else if b = p.cmdReset then .rxReset
  else .rxForward b

/-- The `TXBYTE` format by value (R74): a control byte, else data. -/
def txInstr (p : Params) (v : Byte) : Instr :=
  if v = p.pauseByte then .txPause
  else if v = p.resumeByte then .txResume
  else .txData v

/-- A line without a mark: an operation where the opcode byte is a selector of R82, else a received byte, the way the
scripts of 95_test_vectors.md write both (log entry 7). -/
def decodeUnmarked (p : Params) (f : Fields) : Decoded :=
  match decodeOp f with
  | .reject .noSuchOperation => f.plain (rxInstr p f.op)
  | d => d

/-- The decoder on the fields. Marks: 0 none, 1 `RXBYTE`, 2 `TXBYTE` by value, 3 `OP`, 4 a `TXBYTE` that is data
whatever its value, which the wire does not mark (R75). -/
def decodeFields (p : Params) (f : Fields) : Decoded :=
  match f.mark.toNat with
  | 0 => decodeUnmarked p f
  | 1 => f.plain (rxInstr p f.op)
  | 2 => f.plain (txInstr p f.op)
  | 3 => decodeOp f
  | 4 => f.plain (.txData f.op)
  | _ => .reject .badMark

/-- The decoder: total on any bytes. -/
def decode (p : Params) : List Byte → Decoded
  | [op, arg, buf, mark, b0, b1, b2, b3] => decodeFields p ⟨op, arg, buf, mark, b3 ++ b2 ++ b1 ++ b0⟩
  | _ => .reject .badLength

/-- The buffer selector byte. -/
def byteOfBuffer : Buffer → Byte
  | .rx => 0
  | .tx => 1

/-- The eight bytes of the fields. -/
def Fields.bytes (f : Fields) : List Byte :=
  [f.op, f.arg, f.buf, f.mark,
    f.baud.extractLsb' 0 8, f.baud.extractLsb' 8 8, f.baud.extractLsb' 16 8, f.baud.extractLsb' 24 8]

/-- The encoder: the fields of an instruction, from R72, R74 and R82. -/
def encodeFields (p : Params) : Instr → Fields
  | .rxStatusReport => ⟨p.cmdStatusReport, 0, 0, 1, 0⟩
  | .rxCycleStart => ⟨p.cmdCycleStart, 0, 0, 1, 0⟩
  | .rxFeedHold => ⟨p.cmdFeedHold, 0, 0, 1, 0⟩
  | .rxSafetyDoor => ⟨p.cmdSafetyDoor, 0, 0, 1, 0⟩
  | .rxReset => ⟨p.cmdReset, 0, 0, 1, 0⟩
  | .rxForward b => ⟨b, 0, 0, 1, 0⟩
  | .txPause => ⟨p.pauseByte, 0, 0, 2, 0⟩
  | .txResume => ⟨p.resumeByte, 0, 0, 2, 0⟩
  | .txData v => ⟨v, 0, 0, 4, 0⟩
  | .init baud => ⟨0x00, 0, 0, 0, baud⟩
  | .writeByte b => ⟨0x01, b, 0, 0, 0⟩
  | .readByte => ⟨0x02, 0, 0, 0, 0⟩
  | .resetReadBuffer => ⟨0x03, 0, 0, 0, 0⟩
  | .onRxReady => ⟨0x04, 0, 0, 0, 0⟩
  | .onTxReady => ⟨0x05, 0, 0, 0, 0⟩
  | .rtTestAndClear m => ⟨0x06, byteOfMask m, 0, 0, 0⟩
  | .tryPush buf b => ⟨0x08, b, byteOfBuffer buf, 0, 0⟩
  | .tryPop buf => ⟨0x09, 0, byteOfBuffer buf, 0, 0⟩
  | .occupancy buf => ⟨0x0A, 0, byteOfBuffer buf, 0, 0⟩
  | .reset buf => ⟨0x0B, 0, byteOfBuffer buf, 0, 0⟩
  | .classify b => ⟨0x0C, b, 0, 0, 0⟩
  | .configureUart baud => ⟨0x10, 0, 0, 0, baud⟩
  | .hardwareSendByte v => ⟨0x11, v, 0, 0, 0⟩
  | .hardwareReceiveByte => ⟨0x12, 0, 0, 0, 0⟩
  | .enableTxInterrupt => ⟨0x13, 0, 0, 0, 0⟩
  | .disableTxInterrupt => ⟨0x14, 0, 0, 0, 0⟩
  | .invokeEmergencyReset => ⟨0x15, 0, 0, 0, 0⟩

/-- The encoder: the line of an instruction. -/
def encode (p : Params) (i : Instr) : List Byte :=
  (encodeFields p i).bytes

/-- The eight bytes of a line whose bits are `w`, bit 0 the least significant bit of the first byte. -/
def lineBytes (w : Nat) : List Byte :=
  [BitVec.ofNat 8 w, BitVec.ofNat 8 (w >>> 8), BitVec.ofNat 8 (w >>> 16), BitVec.ofNat 8 (w >>> 24),
    BitVec.ofNat 8 (w >>> 32), BitVec.ofNat 8 (w >>> 40), BitVec.ofNat 8 (w >>> 48), BitVec.ofNat 8 (w >>> 56)]

/-- The instruction of an answer. -/
def Decoded.toOption : Decoded → Option Instr
  | .ok i => some i
  | .reject _ => none

/-- What the decoder reads from a word of the opcode table, with the default parameters: the low `nbits` bits of the
line are those of `w`, the others are 0. -/
def decodeTableWord (nbits w : Nat) : Option Instr :=
  (decode Params.default (lineBytes (w % 2 ^ nbits))).toOption

end Sys2Proof
end

