-- ==== Sys2Proof/Machine/State.lean ====
section
/-!
DEFINITION. The state of the block (10_state.md), of the agent MAIN and of the environment's side of the interfaces,
as plain data; the reasons a step can stop; the state after reset (R39).
-/

namespace Sys2Proof.Machine

/-- The flow-control state (R17, R25): four values and no fifth (R78). -/
inductive FlowCtrl where
  | resumeRequested
  | resumeAcknowledged
  | pauseRequested
  | pauseAcknowledged
  deriving DecidableEq, Repr

/-- The storage of a ring buffer: the bytes written since reset, by index, in rising order. An index not listed holds
no byte yet (R30: absent). -/
abbrev Memory := List Host.Cell

/-- One ring buffer: next write index, next read index, storage (R20 to R24, R30). -/
structure Ring where
  head : Nat
  tail : Nat
  storage : Memory
  deriving DecidableEq, Repr

/-- The five effects of the interceptor (R72). -/
inductive Effect where
  | statusReport
  | cycleStart
  | feedHold
  | safetyDoor
  | reset
  deriving DecidableEq, Repr

/-- What `classify` answers (R130). -/
inductive Action where
  | intercepted (e : Effect)
  | forward (b : Byte)
  deriving DecidableEq, Repr

/-- The value an operation returns to its caller (R82, R84). -/
inductive Result where
  | done
  | aborted
  | data (d : Byte)
  | noData
  | flags (r : RtFlags)
  | pushed (ok : Bool)
  | popped (d : Option Byte)
  | count (n : Nat)
  | action (a : Action)
  | byte (b : Byte)
  deriving DecidableEq, Repr

/-- `MAIN.op`, `MAIN.mstep` and the local values MAIN holds, in one: a constructor names the micro-step MAIN takes next
and carries the operand and what has been read so far (R31, R32, R33). -/
inductive MainState where
  | idle
  | atInit (baud : Baud)
  | atW1 (b : Byte)
  | atW2 (b : Byte) (nh : Nat) (t : Option Nat)
  | atW3 (b : Byte) (nh t : Nat)
  | atW4 (b : Byte) (nh t : Nat)
  | atW5 (b : Byte) (nh t : Nat)
  | atW6 (b : Byte) (nh t : Nat)
  | atRd1
  | atRd2 (h : Nat)
  | atRd3 (h : Nat) (d : Byte)
  | atRd4 (h : Nat) (d : Byte)
  | atRd5 (h : Nat) (d : Byte) (h2 c : Nat)
  | atRd6 (h : Nat) (d : Byte) (h2 c : Nat)
  | atRs1
  | atRs2 (h : Nat)
  | atRs3 (h : Nat)
  | atRt (m : RtFlags)
  deriving DecidableEq, Repr

/-- The two interrupt sources, by their handlers (R205). -/
inductive Handler where
  | onRxReady
  | onTxReady
  deriving DecidableEq, Repr

/-- The two execution contexts (R218). -/
inductive Context where
  | main
  | interrupt
  deriving DecidableEq, Repr

/-- The state. -/
structure State where
  /-- The parameters (R6 to R10): no step writes them. -/
  params : Params
  /-- The RX ring buffer (R21, R22, R30). -/
  rx : Ring
  /-- The TX ring buffer (R23, R24, R30). -/
  tx : Ring
  /-- The flow-control state register (R25). -/
  flowCtrl : FlowCtrl
  /-- The TX-ready interrupt enable (R26). -/
  txIrqEn : Bool
  /-- The latch of pending realtime requests (R28). -/
  rtPending : RtFlags
  /-- MAIN's operation, micro-step and locals (R31 to R33). -/
  main : MainState
  /-- Bytes received and not yet read (R34). -/
  wireIn : List Byte
  /-- Every byte sent, in call order (R35). -/
  wireOut : List Byte
  /-- How often the emergency reset routine was called (R35). -/
  resetCalls : Nat
  /-- ENV's input: the UART can accept a byte now (R36). -/
  txReady : Bool
  /-- ENV's input: the global abort signal (R36). -/
  abort : Bool
  /-- The baud value `configure_uart` was last given: `none` until the first call returns, that is, until the RX-ready
  interrupt is enabled and the entry points are registered (R27, R181, R232). -/
  uart : Option Baud
  /-- The values operations have returned, oldest first (R35, the third observable). -/
  returns : List Result
  /-- The model's own: who moves next (R14, R86; log entry 5). -/
  script : List Line
  /-- The model's own: how many free values have been drawn. -/
  draws : Nat
  deriving DecidableEq, Repr

/-- The machine faults in one way only. -/
inductive Fault where
  /-- A storage access outside indices 0..N-1, where the spec has no address (R50). Raised by `memRead` and `memWrite`;
  safe; no step raises it from a state with its indices in range (R55). -/
  | indexOutOfRange (buf : Buffer) (i : Nat)
  deriving DecidableEq, Repr

/-- What the model does not accept. -/
inductive Refusal where
  /-- No meaning yet for the instruction. Raised by `exec`'s refused arms; safe. -/
  | notModelled (mnemonic : String)
  /-- MAIN is asked to start an operation, or to run a ring primitive of its own role, while an operation is in progress
  (R32, R191; U10: refuse). Raised by the meanings of MAIN's operations and primitives; safe. -/
  | mainBusy
  /-- A line whose bytes decode to no instruction (R77). Raised by `runLine`; safe. -/
  | undecodable
  /-- Parameters that break their constraints (R234, U8: refuse). Raised by `step`; safe. -/
  | illegalParameters
  deriving DecidableEq, Repr

/-- An empty ring buffer whose storage nothing has written (R39). -/
def Ring.reset : Ring := ⟨0, 0, []⟩

/-- The state after reset with given parameters (R39, R230). `tx_ready` and `abort` are unspecified there: the model
names false, DESIGN CHOICE (log entry 4). -/
def State.resetWith (p : Params) : State where
  params := p
  rx := Ring.reset
  tx := Ring.reset
  flowCtrl := .resumeAcknowledged
  txIrqEn := false
  rtPending := ⟨false, false, false, false⟩
  main := .idle
  wireIn := []
  wireOut := []
  resetCalls := 0
  txReady := false
  abort := false
  uart := none
  returns := []
  script := []
  draws := 0

/-- The state after reset, with the default parameters. -/
def State.reset : State := State.resetWith Params.default

end Sys2Proof.Machine
end

