-- ==== Sys2Proof/Machine/Memory.lean ====
section
/-!
DEFINITION. The storage arrays as lists of cells in one canonical form: indices strictly rising. A byte is listed from
the write that stores it on (R30, R52, R53).
-/

namespace Sys2Proof.Machine

/-- The byte written at an index, if any has been since reset. -/
def Memory.lookup (i : Nat) : Memory → Option Byte
  | [] => none
  | (j, v) :: rest => if i = j then some v else if i < j then none else Memory.lookup i rest

/-- Store one byte: nothing else changes (R53). -/
def Memory.write (i : Nat) (v : Byte) : Memory → Memory
  | [] => [(i, v)]
  | (j, w) :: rest =>
    if i < j then (i, v) :: (j, w) :: rest
    else if i = j then (i, v) :: rest
    else (j, w) :: Memory.write i v rest

/-- Every listed index is at least `lo`, and they rise strictly. -/
def Memory.risesFrom (lo : Nat) : Memory → Bool
  | [] => true
  | (j, _) :: rest => decide (lo ≤ j) && Memory.risesFrom (j + 1) rest

/-- The canonical form. -/
def Memory.wf (m : Memory) : Bool :=
  Memory.risesFrom 0 m

/-- Every listed index lies in the array of capacity `n` (R50). -/
def Memory.below (n : Nat) (m : Memory) : Bool :=
  m.all fun c => decide (c.1 < n)

/-- What a slot reads as: the byte written there, else a free value, the same at every read of the same slot (R52, U4).
The one definition of an unlisted index's value (log entry 3). -/
def Memory.load (buf : Buffer) (i : Nat) (m : Memory) : Byte :=
  match m.lookup i with
  | some v => v
  | none => Config.freeByte buf i

end Sys2Proof.Machine
end

