-- ==== Sys2Proof/Machine/Ops.lean ====
section
/-!
DEFINITION. The shared operations: index arithmetic (R90 to R92), the storage access (R52, R53), the four primitives of
a ring buffer (R94 to R100), the return of an operation, and taking an interrupt (R206 to R216).
-/

namespace Sys2Proof.Machine

/-- What a meaning answers. -/
abbrev Out := Host.Outcome State Fault Refusal

/-- First the one, then the other: a fault or a refusal ends it. -/
def andThen {α β : Type} (x : Host.Outcome α Fault Refusal) (k : α → Host.Outcome β Fault Refusal) :
    Host.Outcome β Fault Refusal :=
  match x with
  | .next a => k a
  | .fault f => .fault f
  | .refused r => .refused r

/-! ## Index arithmetic -/

/-- `next(i) = (i + 1) mod N` (R90). -/
def nextIndex (n i : Nat) : Nat :=
  (i + 1) % n

/-- `count(h, t) = (h - t) mod N`, N added before the subtraction (R91). -/
def count (n h t : Nat) : Nat :=
  (h + n - t) % n

/-! ## The two buffers in State -/

/-- Ring buffer `B`. -/
def State.ring (s : State) : Buffer → Ring
  | .rx => s.rx
  | .tx => s.tx

/-- Replace ring buffer `B`. -/
def State.setRing (s : State) : Buffer → Ring → State
  | .rx, r => { s with rx := r }
  | .tx, r => { s with tx := r }

/-- `B.N` (R12). -/
def State.cap (s : State) (buf : Buffer) : Nat :=
  s.params.cap buf

/-- `B.head <- i`. -/
def State.setHead (s : State) (buf : Buffer) (i : Nat) : State :=
  s.setRing buf { s.ring buf with head := i }

/-- `B.tail <- i`. -/
def State.setTail (s : State) (buf : Buffer) (i : Nat) : State :=
  s.setRing buf { s.ring buf with tail := i }

/-- `next` in the capacity of `B`. -/
def State.next (s : State) (buf : Buffer) (i : Nat) : Nat :=
  nextIndex (s.cap buf) i

/-- The occupancy of `B` (R91, R98). -/
def State.occupancy (s : State) (buf : Buffer) : Nat :=
  count (s.cap buf) (s.ring buf).head (s.ring buf).tail

/-- `empty(B)` (R92). -/
def State.isEmpty (s : State) (buf : Buffer) : Bool :=
  (s.ring buf).head == (s.ring buf).tail

/-- `full(B)` (R92). -/
def State.isFull (s : State) (buf : Buffer) : Bool :=
  s.next buf (s.ring buf).head == (s.ring buf).tail

/-- What slot `i` of `B` reads as. -/
def State.slot (s : State) (buf : Buffer) (i : Nat) : Byte :=
  Memory.load buf i (s.ring buf).storage

/-- The live bytes of `B`, oldest first (R16, R37 (e)). -/
def State.live (s : State) (buf : Buffer) : List Byte :=
  (List.range (s.occupancy buf)).map fun k => s.slot buf (((s.ring buf).tail + k) % s.cap buf)

/-! ## Storage access -/

/-- `MemRead(B, i)`: no side effect (R52). -/
def memRead (buf : Buffer) (i : Nat) (s : State) : Host.Outcome Byte Fault Refusal :=
  if i < s.cap buf then .next (s.slot buf i) else .fault (.indexOutOfRange buf i)

/-- `MemWrite(B, i, v)`: one byte, nothing else (R53). -/
def memWrite (buf : Buffer) (i : Nat) (v : Byte) (s : State) : Out :=
  if i < s.cap buf then
    .next (s.setRing buf { s.ring buf with storage := (s.ring buf).storage.write i v })
  else .fault (.indexOutOfRange buf i)

/-! ## The primitives of a ring buffer -/

/-- `B.try_push(b)` (R94): full test, store, publish. -/
def ringPush (buf : Buffer) (b : Byte) (s : State) : Host.Outcome (Bool × State) Fault Refusal :=
  if s.isFull buf then .next (false, s)
  else andThen (memWrite buf (s.ring buf).head b s) fun t =>
    .next (true, t.setHead buf (s.next buf (s.ring buf).head))

/-- `B.try_pop()` (R96): empty test, read, release. -/
def ringPop (buf : Buffer) (s : State) : Host.Outcome (Option Byte × State) Fault Refusal :=
  if s.isEmpty buf then .next (none, s)
  else andThen (memRead buf (s.ring buf).tail s) fun d =>
    .next (some d, s.setTail buf (s.next buf (s.ring buf).tail))

/-- `B.reset()` (R100): `tail <- head`. -/
def ringReset (buf : Buffer) (s : State) : State :=
  s.setTail buf (s.ring buf).head

/-! ## The return of an operation -/

/-- A value goes to the caller (R35). -/
def State.record (s : State) (r : Result) : State :=
  { s with returns := s.returns ++ [r] }

/-- MAIN's operation returns: MAIN is idle again and its locals are discarded (R31, R32). -/
def State.finish (s : State) : State :=
  { s with main := .idle }

/-- MAIN's operation returns a value. -/
def State.finishWith (s : State) (r : Result) : State :=
  (s.record r).finish

/-! ## Taking an interrupt

This block's one kind of exception entry. Entry saves nothing, the handler's whole body is one transition, and return
restores nothing (R214 to R216): MAIN's operation, micro-step and locals stand as they were. -/

/-- The interrupt is enabled (R206, R207): neither before `init` has returned (R232), TX-ready only while armed. -/
def State.enabled (s : State) : Handler → Bool
  | .onRxReady => s.uart.isSome
  | .onTxReady => s.uart.isSome && s.txIrqEn

/-- The interrupt is pending (R206, R207): a level, not an edge. -/
def State.pending (s : State) : Handler → Bool
  | .onRxReady => !s.wireIn.isEmpty
  | .onTxReady => s.txReady

/-- The arbiter may invoke the handler (R208). No handler is ever running between two steps (R215). -/
def State.invocable (s : State) (h : Handler) : Bool :=
  s.enabled h && s.pending h

/-- Take an interrupt: the arbiter runs the handler's body if it may, and does not invoke it otherwise (R208). -/
def takeInterrupt (h : Handler) (body : State → Out) (s : State) : Out :=
  if s.invocable h then body s else .next s

end Sys2Proof.Machine
end

