-- ==== Sys2Proof/Machine/Flags.lean ====
section
/-!
DEFINITION. The flags: the latch `rt_pending`, its atomic set (R132 to R135) and its atomic test-and-clear (R141), and
where its bits stand in an external bitset (R10, R81, R142).
-/

namespace Sys2Proof.Machine

/-- No flag. -/
def noFlags : RtFlags := ⟨false, false, false, false⟩

/-- The flags in both sets. -/
def flagsAnd (a b : RtFlags) : RtFlags :=
  ⟨a.statusReport && b.statusReport, a.cycleStart && b.cycleStart, a.feedHold && b.feedHold,
    a.safetyDoor && b.safetyDoor⟩

/-- The flags of the first set that are not in the second. -/
def flagsDiff (a b : RtFlags) : RtFlags :=
  ⟨a.statusReport && !b.statusReport, a.cycleStart && !b.cycleStart, a.feedHold && !b.feedHold,
    a.safetyDoor && !b.safetyDoor⟩

/-- `rt_pending.status_report <- 1`. -/
def setStatusReport (s : State) : State :=
  { s with rtPending := { s.rtPending with statusReport := true } }

/-- `rt_pending.cycle_start <- 1`. -/
def setCycleStart (s : State) : State :=
  { s with rtPending := { s.rtPending with cycleStart := true } }

/-- `rt_pending.feed_hold <- 1`. -/
def setFeedHold (s : State) : State :=
  { s with rtPending := { s.rtPending with feedHold := true } }

/-- `rt_pending.safety_door <- 1`. -/
def setSafetyDoor (s : State) : State :=
  { s with rtPending := { s.rtPending with safetyDoor := true } }

/-- What `rt_test_and_clear(m)` answers: the set flags of `m` (R141). -/
def rtTested (m : RtFlags) (s : State) : RtFlags :=
  flagsAnd m s.rtPending

/-- What `rt_test_and_clear(m)` leaves: every flag of `m` is 0, the others stand (R141). -/
def rtCleared (m : RtFlags) (s : State) : State :=
  { s with rtPending := flagsDiff s.rtPending m }

/-- The latch as bits of an external bitset, at the positions `BIT_*` (R10, R81). -/
def rtBitset (p : Params) (f : RtFlags) : Nat :=
  (if f.statusReport then 2 ^ p.bitStatusReport else 0) ||| (if f.cycleStart then 2 ^ p.bitCycleStart else 0) |||
    (if f.feedHold then 2 ^ p.bitFeedHold else 0) ||| (if f.safetyDoor then 2 ^ p.bitSafetyDoor else 0)

/-- The external bitset that holds the latch beside other bits, which the block does not disturb (R142). -/
def rtExternal (p : Params) (others : Nat) (f : RtFlags) : Nat :=
  others ||| rtBitset p f

end Sys2Proof.Machine
end

