-- ==== Sys2Proof/Machine/Operands.lean ====
section
/-!
DEFINITION. The operand forms: the two addressing modes (R51), the role a buffer selector stands for (R16, R106), the
opaque and sentinel forms of results (R10, R84), and the numeric form of `flow_ctrl` (R80).
-/

namespace Sys2Proof.Machine

/-- The context that pushes into `B` and owns `B.head` (R16, R106). -/
def producer : Buffer → Context
  | .rx => .interrupt
  | .tx => .main

/-- The context that pops from `B` and owns `B.tail` (R16, R106). -/
def consumer : Buffer → Context
  | .rx => .main
  | .tx => .interrupt

/-- Head-indexed: the effective index of the store of a push (R51). -/
def headIndexed (s : State) (buf : Buffer) : Nat :=
  (s.ring buf).head

/-- Tail-indexed: the effective index of the load of a pop (R51). -/
def tailIndexed (s : State) (buf : Buffer) : Nat :=
  (s.ring buf).tail

/-- The index of `B` that a context does not own (R16). -/
def foreignIndex (s : State) (buf : Buffer) (c : Context) : Nat :=
  if c = producer buf then (s.ring buf).tail else (s.ring buf).head

/-- `B.occupancy()` for a caller in context `c`: one snapshot of its foreign index (R98). -/
def occupancyFrom (s : State) (buf : Buffer) (c : Context) : Nat :=
  let f := foreignIndex s buf c
  if c = producer buf then count (s.cap buf) (s.ring buf).head f else count (s.cap buf) f (s.ring buf).tail

/-- A call in a context: MAIN runs one operation at a time (R32), so a call of MAIN's role is not offered while one is
in progress (U10). A handler's call is made between two micro-steps of MAIN, whatever MAIN is doing (R214). -/
def inContext (c : Context) (s : State) (k : Out) : Out :=
  match c, s.main with
  | .interrupt, _ => k
  | .main, .idle => k
  | .main, _ => .refused .mainBusy

/-- The byte a bare-byte `read_byte` would answer: `NO_DATA` for `NoData` (R10, R84). -/
def sentinelByte (p : Params) : Result → Option Byte
  | .data d => some d
  | .noData => some p.noData
  | _ => none

/-- The two-bit number of a flow-control state (R80). No rule reads it. -/
def FlowCtrl.code : FlowCtrl → BitVec 2
  | .resumeRequested => 0
  | .resumeAcknowledged => 1
  | .pauseRequested => 2
  | .pauseAcknowledged => 3

/-- The flow-control state of a two-bit number (R80). -/
def FlowCtrl.ofCode (c : BitVec 2) : FlowCtrl :=
  if c = 0 then .resumeRequested
  else if c = 1 then .resumeAcknowledged
  else if c = 2 then .pauseRequested
  else .pauseAcknowledged

/-- A request state: a control byte waits to be sent (R16, R110). -/
def FlowCtrl.isRequest : FlowCtrl → Bool
  | .resumeRequested => true
  | .resumeAcknowledged => false
  | .pauseRequested => true
  | .pauseAcknowledged => false

end Sys2Proof.Machine
end

