-- ==== Sys2Proof/Machine/Hal.lean ====
section
/-!
DEFINITION. The calls the block makes outward (R180 to R186), selectors 0x10 to 0x15.

As instructions by themselves they are DESIGN CHOICE (log entry 26): R82 names only their callers, and the model runs each as
one transition in any state and context, MAIN inside an operation or `tx_ready` 0 included, with its whole effect.
-/

namespace Sys2Proof.Machine

/-- `configure_uart(BAUD)`: opaque; from its return on the interrupts are live (R181). -/
def configureUart (baud : Baud) (s : State) : State :=
  { s with uart := some baud }

/-- `hardware_send_byte(v)` (R182). -/
def hardwareSend (v : Byte) (s : State) : State :=
  { s with wireOut := s.wireOut ++ [v] }

/-- `hardware_receive_byte()` (R183): the first byte received. It requires one; where there is none the answer is a
free value and nothing is removed (log entry 15). -/
def hardwareReceive (s : State) : Byte × State :=
  match s.wireIn with
  | b :: rest => (b, { s with wireIn := rest })
  | [] => (Config.freeReceived s.draws, { s with draws := s.draws + 1 })

/-- `enable_tx_interrupt()` (R184). -/
def enableTx (s : State) : State :=
  { s with txIrqEn := true }

/-- `disable_tx_interrupt()` (R185). -/
def disableTx (s : State) : State :=
  { s with txIrqEn := false }

/-- `invoke_emergency_reset()` (R186): one event. -/
def emergencyReset (s : State) : State :=
  { s with resetCalls := s.resetCalls + 1 }

/-- configure_uart by itself (R181): in any state and context, DESIGN CHOICE (log entry 26). -/
def execConfigureUart (baud : Baud) (s : State) : Out :=
  .next (configureUart baud s)

/-- hardware_send_byte by itself (R182; its caller makes it only with `tx_ready` 1): in any state and context, DESIGN CHOICE (log entry 26). -/
def execHardwareSendByte (v : Byte) (s : State) : Out :=
  .next (hardwareSend v s)

/-- hardware_receive_byte by itself (R183): in any state and context, DESIGN CHOICE (log entry 26). -/
def execHardwareReceiveByte (s : State) : Out :=
  .next ((hardwareReceive s).2.record (.byte (hardwareReceive s).1))

/-- enable_tx_interrupt by itself (R184): in any state and context, DESIGN CHOICE (log entry 26). -/
def execEnableTxInterrupt (s : State) : Out :=
  .next (enableTx s)

/-- disable_tx_interrupt by itself (R185): in any state and context, DESIGN CHOICE (log entry 26). -/
def execDisableTxInterrupt (s : State) : Out :=
  .next (disableTx s)

/-- invoke_emergency_reset by itself (R186): in any state and context, DESIGN CHOICE (log entry 26). -/
def execInvokeEmergencyReset (s : State) : Out :=
  .next (emergencyReset s)

end Sys2Proof.Machine
end

