-- ==== Sys2Proof/Machine/FlowControl.lean ====
section
/-!
DEFINITION. The flow-control state machine (R110 to R124) and the transmitted bytes (R74): the rows TX.PAUSE, TX.RESUME
and TX.DATA are the three things `on_tx_ready` can send. By themselves they run in any state and context, without the arbiter's
condition: DESIGN CHOICE (log entry 9).
-/

namespace Sys2Proof.Machine

/-- The pause request, after an accepted push into RX (R112); absent without flow control (R122). -/
def pauseEvaluation (s : State) : State :=
  if s.params.xonxoffEnable ∧ s.params.highWatermark ≤ s.occupancy .rx ∧ s.flowCtrl = .resumeAcknowledged then
    enableTx { s with flowCtrl := .pauseRequested }
  else s

/-- The condition of the resume request, for the count MAIN holds (R113, micro-step Rd5). -/
def resumeDue (c : Nat) (s : State) : Bool :=
  decide (c < s.params.lowWatermark) && decide (s.flowCtrl = .pauseAcknowledged)

/-- The pause byte is the next byte to send (R114). -/
def pauseDue (s : State) : Bool :=
  s.params.xonxoffEnable && decide (s.flowCtrl = .pauseRequested)

/-- The resume byte is the next byte to send (R115). -/
def resumeByteDue (s : State) : Bool :=
  s.params.xonxoffEnable && decide (s.flowCtrl = .resumeRequested)

/-- The pause byte goes out (R114). -/
def sendPause (s : State) : State :=
  { hardwareSend s.params.pauseByte s with flowCtrl := .pauseAcknowledged }

/-- The resume byte goes out (R115). -/
def sendResume (s : State) : State :=
  { hardwareSend s.params.resumeByte s with flowCtrl := .resumeAcknowledged }

/-- The data path: the oldest queued byte goes out, if there is one (R170, R172). -/
def sendData (s : State) : Out :=
  andThen (ringPop .tx s) fun r =>
    match r.1 with
    | some d => .next (hardwareSend d r.2)
    | none => .next r.2

/-- One transmit opportunity: a control byte before data (R118, R211). -/
def transmit (s : State) : Out :=
  if pauseDue s then .next (sendPause s)
  else if resumeByteDue s then .next (sendResume s)
  else sendData s

/-- The empty test that ends `on_tx_ready`, after either branch (R170, R171). -/
def disarmIfEmpty (s : State) : State :=
  if s.isEmpty .tx then disableTx s else s

/-- TX.PAUSE (R114). Not the byte to send now: nothing happens (log entry 9). -/
def execTxPause (s : State) : Out :=
  if pauseDue s then .next (sendPause s) else .next s

/-- TX.RESUME (R115). Not the byte to send now: nothing happens (log entry 9). -/
def execTxResume (s : State) : Out :=
  if resumeByteDue s then .next (sendResume s) else .next s

/-- TX.DATA (R170, data path): the byte `v` popped from the TX buffer goes out. Where a control byte stands before it,
or `v` is not the oldest queued byte, it is not sent now: nothing happens (log entry 9). -/
def execTxData (v : Byte) (s : State) : Out :=
  if pauseDue s || resumeByteDue s then .next s
  else andThen (ringPop .tx s) fun r =>
    if r.1 = some v then .next (hardwareSend v r.2) else .next s

end Sys2Proof.Machine
end

