-- ==== Sys2Proof/Machine/Interceptor.lean ====
section
/-!
DEFINITION. The realtime command interceptor (R130 to R139): `classify`, the five effects, and what becomes of a
forwarded byte. The rows RX.* are the six things `on_rx_ready` can do with a byte (log entry 8).

As instructions by themselves the rows RX.* are DESIGN CHOICE (log entry 27): the spec gives these effects only inside
`on_rx_ready`, and the model runs each as one transition in any state and context, without the arbiter's condition.
-/

namespace Sys2Proof.Machine

/-- `classify` (R130): a function of the byte and the five parameters only. -/
def classify (p : Params) (b : Byte) : Action :=
  if b = p.cmdStatusReport then .intercepted .statusReport
  else if b = p.cmdCycleStart then .intercepted .cycleStart
  else if b = p.cmdFeedHold then .intercepted .feedHold
  else if b = p.cmdSafetyDoor then .intercepted .safetyDoor
  else if b = p.cmdReset then .intercepted .reset
  else .forward b

/-- An effect (R132 to R136). -/
def applyEffect (e : Effect) (s : State) : State :=
  match e with
  | .statusReport => setStatusReport s
  | .cycleStart => setCycleStart s
  | .feedHold => setFeedHold s
  | .safetyDoor => setSafetyDoor s
  | .reset => emergencyReset s

/-- A forwarded byte (R166): pushed and evaluated for a pause request, or dropped in silence when RX is full. -/
def forward (b : Byte) (s : State) : Out :=
  andThen (ringPush .rx b s) fun r =>
    if r.1 then .next (pauseEvaluation r.2) else .next r.2

/-- RX.CMD_STATUS_REPORT by itself (R132): in any state and context, DESIGN CHOICE (log entry 27). -/
def execRxStatusReport (s : State) : Out :=
  .next (applyEffect .statusReport s)

/-- RX.CMD_CYCLE_START by itself (R133): in any state and context, DESIGN CHOICE (log entry 27). -/
def execRxCycleStart (s : State) : Out :=
  .next (applyEffect .cycleStart s)

/-- RX.CMD_FEED_HOLD by itself (R134): in any state and context, DESIGN CHOICE (log entry 27). -/
def execRxFeedHold (s : State) : Out :=
  .next (applyEffect .feedHold s)

/-- RX.CMD_SAFETY_DOOR by itself (R135): in any state and context, DESIGN CHOICE (log entry 27). -/
def execRxSafetyDoor (s : State) : Out :=
  .next (applyEffect .safetyDoor s)

/-- RX.CMD_RESET by itself (R136): in any state and context, DESIGN CHOICE (log entry 27). -/
def execRxReset (s : State) : Out :=
  .next (applyEffect .reset s)

/-- RX.FORWARD by itself (R166, last arm): in any state and context, DESIGN CHOICE (log entry 27). -/
def execRxForward (b : Byte) (s : State) : Out :=
  forward b s

/-- classify by itself (R130): no state but the answer. That it runs by itself, in any state and context, is DESIGN CHOICE
(log entry 26): R82 names only its caller. -/
def execClassify (b : Byte) (s : State) : Out :=
  .next (s.record (.action (classify s.params b)))

end Sys2Proof.Machine
end

