-- ==== Sys2Proof/Machine/Driver.lean ====
section
/-!
DEFINITION. The transport driver (43_transport_driver.md): MAIN's operations as sequences of micro-steps, and the two
interrupt handlers, each one transition.
-/

namespace Sys2Proof.Machine

/-- `MAIN.mstep`: the label of the micro-step MAIN takes next (R33). -/
def MainState.mstep : MainState → Option MicroStep
  | .idle => none
  | .atInit _ => some .init
  | .atW1 _ => some .w1
  | .atW2 _ _ _ => some .w2
  | .atW3 _ _ _ => some .w3
  | .atW4 _ _ _ => some .w4
  | .atW5 _ _ _ => some .w5
  | .atW6 _ _ _ => some .w6
  | .atRd1 => some .rd1
  | .atRd2 _ => some .rd2
  | .atRd3 _ _ => some .rd3
  | .atRd4 _ _ => some .rd4
  | .atRd5 _ _ _ _ => some .rd5
  | .atRd6 _ _ _ _ => some .rd6
  | .atRs1 => some .rs1
  | .atRs2 _ => some .rs2
  | .atRs3 _ => some .rs3
  | .atRt _ => some .rt

/-- `MAIN.op`: the operation in progress (R32). -/
def MainState.op : MainState → Option MainOp
  | .idle => none
  | .atInit baud => some (.init baud)
  | .atW1 b => some (.writeByte b)
  | .atW2 b _ _ => some (.writeByte b)
  | .atW3 b _ _ => some (.writeByte b)
  | .atW4 b _ _ => some (.writeByte b)
  | .atW5 b _ _ => some (.writeByte b)
  | .atW6 b _ _ => some (.writeByte b)
  | .atRd1 => some .readByte
  | .atRd2 _ => some .readByte
  | .atRd3 _ _ => some .readByte
  | .atRd4 _ _ => some .readByte
  | .atRd5 _ _ _ _ => some .readByte
  | .atRd6 _ _ _ _ => some .readByte
  | .atRs1 => some .resetReadBuffer
  | .atRs2 _ => some .resetReadBuffer
  | .atRs3 _ => some .resetReadBuffer
  | .atRt m => some (.rtTestAndClear m)

/-- Where an operation begins. -/
def entry : MainOp → MainState
  | .init baud => .atInit baud
  | .writeByte b => .atW1 b
  | .readByte => .atRd1
  | .resetReadBuffer => .atRs1
  | .rtTestAndClear m => .atRt m

/-- MAIN is between two micro-steps at `m`. -/
def State.at (s : State) (m : MainState) : State :=
  { s with main := m }

/-! ## write_byte (R152) -/

/-- W1: `nh <- next(TX.head)`. -/
def stepW1 (b : Byte) (s : State) : Out :=
  .next (s.at (.atW2 b (s.next .tx s.tx.head) none))

/-- W2: one read of `TX.tail`, and the full test. -/
def stepW2 (b : Byte) (nh : Nat) (s : State) : Out :=
  if nh ≠ s.tx.tail then .next (s.at (.atW4 b nh s.tx.tail)) else .next (s.at (.atW3 b nh s.tx.tail))

/-- W3: one sample of `abort` (R153). -/
def stepW3 (b : Byte) (nh t : Nat) (s : State) : Out :=
  if s.abort then .next (s.finishWith .aborted) else .next (s.at (.atW2 b nh (some t)))

/-- W4: store. -/
def stepW4 (b : Byte) (nh t : Nat) (s : State) : Out :=
  andThen (memWrite .tx (headIndexed s .tx) b s) fun s' => .next (s'.at (.atW5 b nh t))

/-- W5: publish. -/
def stepW5 (b : Byte) (nh t : Nat) (s : State) : Out :=
  .next ((s.setHead .tx nh).at (.atW6 b nh t))

/-- W6: arm the TX-ready interrupt. -/
def stepW6 (s : State) : Out :=
  .next ((enableTx s).finishWith .done)

/-! ## read_byte (R157) -/

/-- Rd1: one read of `RX.head`, and the empty test. -/
def stepRd1 (s : State) : Out :=
  if s.rx.head = s.rx.tail then .next (s.finishWith .noData) else .next (s.at (.atRd2 s.rx.head))

/-- Rd2: read the oldest byte. -/
def stepRd2 (h : Nat) (s : State) : Out :=
  andThen (memRead .rx (tailIndexed s .rx) s) fun d => .next (s.at (.atRd3 h d))

/-- Rd3: release; without flow control the operation ends here. -/
def stepRd3 (h : Nat) (d : Byte) (s : State) : Out :=
  let t := s.setTail .rx (s.next .rx s.rx.tail)
  if s.params.xonxoffEnable then .next (t.at (.atRd4 h d)) else .next (t.finishWith (.data d))

/-- Rd4: one more read of `RX.head`, and the occupancy after the pop. -/
def stepRd4 (h : Nat) (d : Byte) (s : State) : Out :=
  .next (s.at (.atRd5 h d s.rx.head (count (s.cap .rx) s.rx.head s.rx.tail)))

/-- Rd5: the atomic test and write of the resume request (R113). -/
def stepRd5 (h : Nat) (d : Byte) (h2 c : Nat) (s : State) : Out :=
  if resumeDue c s then .next ({ s with flowCtrl := .resumeRequested }.at (.atRd6 h d h2 c))
  else .next (s.finishWith (.data d))

/-- Rd6: arm the TX-ready interrupt. -/
def stepRd6 (d : Byte) (s : State) : Out :=
  .next ((enableTx s).finishWith (.data d))

/-! ## reset_read_buffer (R162) -/

/-- Rs1: one read of `RX.head`. -/
def stepRs1 (s : State) : Out :=
  .next (s.at (.atRs2 s.rx.head))

/-- Rs2: discard; without flow control the operation ends here. -/
def stepRs2 (h : Nat) (s : State) : Out :=
  let t := s.setTail .rx h
  if s.params.xonxoffEnable then .next (t.at (.atRs3 h)) else .next t.finish

/-- Rs3: the forced go, a blind write (R116). -/
def stepRs3 (s : State) : Out :=
  .next { s with flowCtrl := .resumeAcknowledged }.finish

/-! ## init (R150) and rt_test_and_clear (R141) -/

/-- The single step of `init`. -/
def stepInit (baud : Baud) (s : State) : Out :=
  .next (configureUart baud s).finish

/-- The single step of `rt_test_and_clear`. -/
def stepRt (m : RtFlags) (s : State) : Out :=
  .next ((rtCleared m s).finishWith (.flags (rtTested m s)))

/-! ## One micro-step, and a whole operation -/

/-- MAIN takes its next micro-step. An idle MAIN is MAIN not stepping (R223): the state stands, DESIGN CHOICE (log entry 28). -/
def mainStep (s : State) : Out :=
  match s.main with
  | .idle => .next s
  | .atInit baud => stepInit baud s
  | .atW1 b => stepW1 b s
  | .atW2 b nh _ => stepW2 b nh s
  | .atW3 b nh t => stepW3 b nh t s
  | .atW4 b nh t => stepW4 b nh t s
  | .atW5 b nh t => stepW5 b nh t s
  | .atW6 _ _ _ => stepW6 s
  | .atRd1 => stepRd1 s
  | .atRd2 h => stepRd2 h s
  | .atRd3 h d => stepRd3 h d s
  | .atRd4 h d => stepRd4 h d s
  | .atRd5 h d h2 c => stepRd5 h d h2 c s
  | .atRd6 _ d _ _ => stepRd6 d s
  | .atRs1 => stepRs1 s
  | .atRs2 h => stepRs2 h s
  | .atRs3 _ => stepRs3 s
  | .atRt m => stepRt m s

/-- Up to `n` micro-steps with no interrupt between them, ending early when the operation returns. With MAIN idle there is none
and the state stands: DESIGN CHOICE for `MAIN: continue`, on which R86 is silent (log entry 28). -/
def runMain : Nat → State → Out
  | 0, s => .next s
  | n + 1, s =>
    match s.main with
    | .idle => .next s
    | _ => andThen (mainStep s) (runMain n)

/-- MAIN starts an operation, which it does only from idle (R32). -/
def startOp (op : MainOp) (s : State) : Out :=
  inContext .main s (.next (s.at (entry op)))

/-- A whole operation with no interrupt inside it (R86). `n` micro-steps are enough for it to return; a `write_byte`
that waits is left in its wait loop, at W2, where later micro-steps go on (log entry 17). -/
def wholeOp (op : MainOp) (n : Nat) (s : State) : Out :=
  andThen (startOp op s) (runMain n)

/-- init (R150). -/
def execInit (baud : Baud) (s : State) : Out :=
  wholeOp (.init baud) 1 s

/-- write_byte (R152): five micro-steps, W1 W2 W4 W5 W6; when TX is full, W1 W2 W3 and, unless aborted, W2 W3 again. -/
def execWriteByte (b : Byte) (s : State) : Out :=
  wholeOp (.writeByte b) 5 s

/-- read_byte (R157): at most six micro-steps. -/
def execReadByte (s : State) : Out :=
  wholeOp .readByte 6 s

/-- reset_read_buffer (R162): at most three micro-steps. -/
def execResetReadBuffer (s : State) : Out :=
  wholeOp .resetReadBuffer 3 s

/-- rt_test_and_clear (R141): one micro-step. -/
def execRtTestAndClear (m : RtFlags) (s : State) : Out :=
  wholeOp (.rtTestAndClear m) 1 s

/-! ## The handlers -/

/-- What `on_rx_ready` does with the byte it has read (R166). -/
def applyAction (a : Action) (s : State) : Out :=
  match a with
  | .intercepted e => .next (applyEffect e s)
  | .forward b => forward b s

/-- The body of `on_rx_ready` (R166). -/
def onRxReady (s : State) : Out :=
  applyAction (classify s.params (hardwareReceive s).1) (hardwareReceive s).2

/-- The body of `on_tx_ready` (R170). -/
def onTxReady (s : State) : Out :=
  andThen (transmit s) fun t => .next (disarmIfEmpty t)

/-- on_rx_ready, invoked by the arbiter (R206). -/
def execOnRxReady (s : State) : Out :=
  takeInterrupt .onRxReady onRxReady s

/-- on_tx_ready, invoked by the arbiter (R207). -/
def execOnTxReady (s : State) : Out :=
  takeInterrupt .onTxReady onTxReady s

end Sys2Proof.Machine
end

