-- ==== Sys2Proof/Machine/RingBuffer.lean ====
section
/-!
DEFINITION. The ring primitives as instructions, selectors 0x08 to 0x0B, each one transition in the context of the role
that owns the index it writes (R94 to R101, R105, R106; log entry 10).
-/

namespace Sys2Proof.Machine

/-- try_push (R94). -/
def execTryPush (buf : Buffer) (b : Byte) (s : State) : Out :=
  inContext (producer buf) s (andThen (ringPush buf b s) fun r => .next (r.2.record (.pushed r.1)))

/-- try_pop (R96). -/
def execTryPop (buf : Buffer) (s : State) : Out :=
  inContext (consumer buf) s (andThen (ringPop buf s) fun r => .next (r.2.record (.popped r.1)))

/-- occupancy (R98): either role, the same number. -/
def execOccupancy (buf : Buffer) (s : State) : Out :=
  .next (s.record (.count (occupancyFrom s buf (consumer buf))))

/-- reset (R100). -/
def execReset (buf : Buffer) (s : State) : Out :=
  inContext (consumer buf) s (.next (ringReset buf s))

end Sys2Proof.Machine
end

