-- ==== Sys2Proof/Machine/Dispatch.lean ====
section
/-! DEFINITION. One arm per constructor of `Instr`: which meaning an instruction has. -/

namespace Sys2Proof.Machine

def exec (i : Instr) (s : State) : Host.Outcome State Fault Refusal :=
  match i with
  | .rxStatusReport => Sys2Proof.Machine.execRxStatusReport s
  | .rxCycleStart => Sys2Proof.Machine.execRxCycleStart s
  | .rxFeedHold => Sys2Proof.Machine.execRxFeedHold s
  | .rxSafetyDoor => Sys2Proof.Machine.execRxSafetyDoor s
  | .rxReset => Sys2Proof.Machine.execRxReset s
  | .rxForward b => Sys2Proof.Machine.execRxForward b s
  | .txPause => Sys2Proof.Machine.execTxPause s
  | .txResume => Sys2Proof.Machine.execTxResume s
  | .txData v => Sys2Proof.Machine.execTxData v s
  | .init baud => Sys2Proof.Machine.execInit baud s
  | .writeByte b => Sys2Proof.Machine.execWriteByte b s
  | .readByte => Sys2Proof.Machine.execReadByte s
  | .resetReadBuffer => Sys2Proof.Machine.execResetReadBuffer s
  | .onRxReady => Sys2Proof.Machine.execOnRxReady s
  | .onTxReady => Sys2Proof.Machine.execOnTxReady s
  | .rtTestAndClear m => Sys2Proof.Machine.execRtTestAndClear m s
  | .tryPush buf b => Sys2Proof.Machine.execTryPush buf b s
  | .tryPop buf => Sys2Proof.Machine.execTryPop buf s
  | .occupancy buf => Sys2Proof.Machine.execOccupancy buf s
  | .reset buf => Sys2Proof.Machine.execReset buf s
  | .classify b => Sys2Proof.Machine.execClassify b s
  | .configureUart baud => Sys2Proof.Machine.execConfigureUart baud s
  | .hardwareSendByte v => Sys2Proof.Machine.execHardwareSendByte v s
  | .hardwareReceiveByte => Sys2Proof.Machine.execHardwareReceiveByte s
  | .enableTxInterrupt => Sys2Proof.Machine.execEnableTxInterrupt s
  | .disableTxInterrupt => Sys2Proof.Machine.execDisableTxInterrupt s
  | .invokeEmergencyReset => Sys2Proof.Machine.execInvokeEmergencyReset s

end Sys2Proof.Machine
end

