-- ==== Sys2Proof/Machine/Script.lean ====
section
/-!
DEFINITION. The interleaving of the agents (R14, R60, R208): one move of one agent, one line of a script (R86), and a
move the model leaves open.
-/

namespace Sys2Proof.Machine

/-- A byte arrives on the line: seen by the block only once `init` has returned (R34, R191, R233; log entry 14). -/
def envReceive (b : Byte) (s : State) : State :=
  if s.uart.isSome then { s with wireIn := s.wireIn ++ [b] } else s

/-- One step of one agent (R14, R191). -/
def perform (m : Move) (s : State) : Out :=
  match m with
  | .start op => startOp op s
  | .main => mainStep s
  | .irqRx => takeInterrupt .onRxReady onRxReady s
  | .irqTx => takeInterrupt .onTxReady onTxReady s
  | .envRx b => .next (envReceive b s)
  | .envTxReady v => .next { s with txReady := v }
  | .envAbort v => .next { s with abort := v }

/-- MAIN's micro-steps up to and including the next execution of the one labelled, or to the operation's return (R86).
Six reach any label of any operation that comes up without another agent moving. With MAIN idle there is no micro-step and the
state stands, and a label that does not come up ends nothing: DESIGN CHOICE, R86 is silent on both (log entry 28). -/
def runTo (label : MicroStep) : Nat → State → Out
  | 0, s => .next s
  | n + 1, s =>
    match s.main.mstep with
    | none => .next s
    | some l => andThen (mainStep s) fun t => if l = label then .next t else runTo label n t

/-- The bound of `runTo`, and of `continueRest`. -/
def scriptFuel : Nat := 6

/-- One line of a script (R86). `continueTo` and `continueRest` with MAIN idle leave the state as it is (log entry 28). -/
def runLine (l : Line) (s : State) : Out :=
  match l with
  | .word bytes =>
    match decode s.params bytes with
    | .ok i => exec i s
    | .reject _ => .refused .undecodable
  | .move m => perform m s
  | .opTo op label => andThen (startOp op s) (runTo label scriptFuel)
  | .continueTo label => runTo label scriptFuel s
  | .continueRest => runMain scriptFuel s

/-- MAIN, a handler or ENV can make this move now (R32, R208, R191). -/
def canMove (m : Move) (s : State) : Bool :=
  match m with
  | .start _ => s.main.mstep.isNone
  | .main => s.main.mstep.isSome
  | .irqRx => s.invocable .onRxReady
  | .irqTx => s.invocable .onTxReady
  | .envRx _ => true
  | .envTxReady _ => true
  | .envAbort _ => true

/-- The script names no mover: who moves next is open (R208, R212, R213), so the move is a free value; one that cannot
be made now is not made. -/
def freeStep (s : State) : Out :=
  let t := { s with draws := s.draws + 1 }
  if canMove (Config.freeMove s.draws) t then perform (Config.freeMove s.draws) t else .next t

end Sys2Proof.Machine
end

