-- ==== Sys2Proof/Machine/Step.lean ====
section
/-!
DEFINITION. One step: the next line of the script, or a free move where the script is at its end.
-/

namespace Sys2Proof.Machine

/-- One step. Parameters that break their constraints are not accepted (R234, U8). -/
def step (s : State) : Host.Outcome State Fault Refusal :=
  if s.params.wf then
    match s.script with
    | l :: rest => runLine l { s with script := rest }
    | [] => freeStep s
  else .refused .illegalParameters

/-- The state with one more line in front of the script: the low `nbits` bits of that line are those of `w`, the others
are 0. The next step fetches and runs it (log entry 19). -/
def State.withFetchWord (s : State) (nbits w : Nat) : State :=
  { s with script := .word (lineBytes (w % 2 ^ nbits)) :: s.script }

end Sys2Proof.Machine
end

