-- ==== Sys2Proof/Safety.lean ====
section
/-!
DEFINITION. What a legal state is: the invariants of R37, R30, R99 and R154 over the fields and MAIN's locals, the
armed rules R123 and R246, and quiescence (R265).
-/

namespace Sys2Proof.Machine

/-- Both indices of `B` are in 0..N-1 (R37 (a)). -/
def State.indexOk (s : State) (buf : Buffer) : Prop :=
  (s.ring buf).head < s.cap buf ∧ (s.ring buf).tail < s.cap buf

/-- The storage of `B` is in canonical form and lists only indices of the array (R50). -/
def State.storageOk (s : State) (buf : Buffer) : Prop :=
  (s.ring buf).storage.wf = true ∧ (s.ring buf).storage.below (s.cap buf) = true

/-- Every live byte of `B` has been written since reset (R30, R37 (e)). -/
def State.liveWritten (s : State) (buf : Buffer) : Prop :=
  ∀ k, k < s.occupancy buf → ((s.ring buf).storage.lookup (((s.ring buf).tail + k) % s.cap buf)).isSome = true

/-- What MAIN's locals still mean at each micro-step, whatever the handlers have done since they were read: the push of
`write_byte` cannot fail (R154), a byte `read_byte` is about to take is there (R97 (d)), its count is a lower bound (R99),
the head snapshot of `reset_read_buffer` lies among the live bytes (R101 (c)). -/
def State.localsOk (s : State) : Prop :=
  match s.main with
  | .idle => True
  | .atInit _ => True
  | .atW1 _ => True
  | .atW2 _ nh _ => nh = s.next .tx s.tx.head
  | .atW3 _ nh _ => nh = s.next .tx s.tx.head
  | .atW4 _ nh _ => nh = s.next .tx s.tx.head ∧ nh ≠ s.tx.tail
  | .atW5 b nh _ => nh = s.next .tx s.tx.head ∧ nh ≠ s.tx.tail ∧ s.tx.storage.lookup s.tx.head = some b
  | .atW6 _ nh _ => s.tx.head = nh
  | .atRd1 => True
  | .atRd2 _ => s.rx.head ≠ s.rx.tail
  | .atRd3 _ d => s.rx.head ≠ s.rx.tail ∧ s.rx.storage.lookup s.rx.tail = some d
  | .atRd4 _ _ => True
  | .atRd5 _ _ _ c => c ≤ s.occupancy .rx
  | .atRd6 _ _ _ _ => True
  | .atRs1 => True
  | .atRs2 h => h < s.cap .rx ∧ count (s.cap .rx) h s.rx.tail ≤ s.occupancy .rx
  | .atRs3 _ => True
  | .atRt _ => True

/-- Without flow control the register is held in the go state (R25, D30). -/
def State.flowHeld (s : State) : Prop :=
  s.params.xonxoffEnable = false → s.flowCtrl = .resumeAcknowledged

/-- The invariant every step keeps. -/
def State.Inv (s : State) : Prop :=
  s.params.wf = true ∧ (∀ buf, s.indexOk buf) ∧ (∀ buf, s.storageOk buf) ∧ (∀ buf, s.liveWritten buf) ∧
    s.localsOk ∧ s.flowHeld

/-- MAIN is between micro-steps W5 and W6: a byte is published and the interrupt is not armed for it yet. -/
def State.betweenW5W6 (s : State) : Bool :=
  s.main.mstep == some .w6

/-- MAIN is between micro-steps Rd5 and Rd6: a resume is requested and the interrupt is not armed for it yet. -/
def State.betweenRd5Rd6 (s : State) : Bool :=
  s.main.mstep == some .rd6

/-- Armed while data is queued (R246) and while a request is pending (R123). -/
def State.Armed (s : State) : Prop :=
  (s.tx.head ≠ s.tx.tail → s.betweenW5W6 = false → s.txIrqEn = true) ∧
    (s.flowCtrl.isRequest = true → s.betweenRd5Rd6 = false → s.txIrqEn = true)

/-- A call that no agent makes on its own (R221): queueing into TX without the arming that `write_byte` adds, and
disarming without the test that `on_tx_ready` makes. -/
def disarming (p : Params) (l : Line) : Prop :=
  match l with
  | .word bytes =>
    decode p bytes = .ok .disableTxInterrupt ∨ ∃ b, decode p bytes = .ok (.tryPush .tx b)
  | .move _ => False
  | .opTo _ _ => False
  | .continueTo _ => False
  | .continueRest => False

/-- The end of a run (R265): MAIN is idle, its program is exhausted, nothing waits on the wire, no handler can be
invoked. -/
def State.quiescent (s : State) : Prop :=
  s.main = .idle ∧ s.script = [] ∧ s.wireIn = [] ∧ s.invocable .onRxReady = false ∧ s.invocable .onTxReady = false

end Sys2Proof.Machine
end

