-- ==== Sys2Proof/Certificates/Slice0/Obligations.lean ====
section
/-!
DEFINITION. The statements, by the order of spec/: encoding, one step, invariants, ring buffer, flow control,
interceptor, driver, outward calls, contexts.
-/

open Sys2Proof Sys2Proof.Machine

namespace Sys2Proof.Claims

/-- The state after an accepted push of `b` into `buf`: the byte stored at the old head, the head advanced. -/
def afterPush (buf : Buffer) (b : Byte) (s : State) : State :=
  s.setRing buf ⟨nextIndex (s.cap buf) (s.ring buf).head, (s.ring buf).tail,
    (s.ring buf).storage.write (s.ring buf).head b⟩

/-- The state after a successful pop from `buf`: the tail advanced, the storage as it was. -/
def afterPop (buf : Buffer) (s : State) : State :=
  s.setRing buf ⟨(s.ring buf).head, nextIndex (s.cap buf) (s.ring buf).tail, (s.ring buf).storage⟩

/-- `full(B)` in the words of R92. -/
def RingFull (buf : Buffer) (s : State) : Prop :=
  nextIndex (s.cap buf) (s.ring buf).head = (s.ring buf).tail

/-- `empty(B)` in the words of R92. -/
def RingEmpty (buf : Buffer) (s : State) : Prop :=
  (s.ring buf).head = (s.ring buf).tail

/-- The condition of the pause request in the words of R112, for a state in which the push has been made. -/
def PauseCondition (s : State) : Prop :=
  s.params.xonxoffEnable = true ∧ s.params.highWatermark ≤ count s.params.rxN s.rx.head s.rx.tail ∧
    s.flowCtrl = .resumeAcknowledged

/-- The answer to a forwarded byte: dropped, pushed, or pushed with a pause request (R112, R166). -/
def ForwardAnswer (b : Byte) (s : State) (x : Out) : Prop :=
  (RingFull .rx s → x = .next s) ∧
  (¬RingFull .rx s → ¬PauseCondition (afterPush .rx b s) → x = .next (afterPush .rx b s)) ∧
  (¬RingFull .rx s → PauseCondition (afterPush .rx b s) →
    x = .next { afterPush .rx b s with flowCtrl := .pauseRequested, txIrqEn := true })

/-- A byte other than the five commands. -/
def NoCommand (p : Params) (b : Byte) : Prop :=
  b ≠ p.cmdStatusReport ∧ b ≠ p.cmdCycleStart ∧ b ≠ p.cmdFeedHold ∧ b ≠ p.cmdSafetyDoor ∧ b ≠ p.cmdReset

/-- The latch rule for one flag and its command, over the moves of the agents. -/
def LatchRule (flag : RtFlags → Bool) (cmd : Params → Byte) : Prop :=
  ∀ m s t, perform m s = .next t →
    (flag s.rtPending = false → flag t.rtPending = true → m = .irqRx ∧ s.wireIn.head? = some (cmd s.params)) ∧
    (flag s.rtPending = true → flag t.rtPending = false → m = .main ∧ ∃ k, s.main = .atRt k ∧ flag k = true)

/-- The micro-steps that may follow one (R152, R157, R162, and the single steps); `none` is the operation's return. -/
def successors : MicroStep → List (Option MicroStep)
  | .init => [none]
  | .w1 => [some .w2]
  | .w2 => [some .w3, some .w4]
  | .w3 => [some .w2, none]
  | .w4 => [some .w5]
  | .w5 => [some .w6]
  | .w6 => [none]
  | .rd1 => [some .rd2, none]
  | .rd2 => [some .rd3]
  | .rd3 => [some .rd4, none]
  | .rd4 => [some .rd5]
  | .rd5 => [some .rd6, none]
  | .rd6 => [none]
  | .rs1 => [some .rs2]
  | .rs2 => [some .rs3, none]
  | .rs3 => [none]
  | .rt => [none]

/-- The RX queue after one move: a handler appends, a pop takes the oldest, a discard takes a run of the oldest. -/
def rxQueueAfter (m : Move) (s : State) : List Byte :=
  match m, s.main with
  | .irqRx, _ =>
    match s.wireIn with
    | b :: _ =>
      if s.invocable .onRxReady = true ∧ classify s.params b = .forward b ∧ s.isFull .rx = false then
        s.live .rx ++ [b]
      else s.live .rx
    | [] => s.live .rx
  | .main, .atRd3 _ _ => (s.live .rx).drop 1
  | .main, .atRs2 h => (s.live .rx).drop (count s.params.rxN h s.rx.tail)
  | _, _ => s.live .rx

/-- The TX queue after one move: the publish of `write_byte` appends, a data byte sent takes the oldest. -/
def txQueueAfter (m : Move) (s : State) : List Byte :=
  match m, s.main with
  | .main, .atW5 b _ _ => s.live .tx ++ [b]
  | .irqTx, _ =>
    if s.invocable .onTxReady = true ∧ pauseDue s = false ∧ resumeByteDue s = false then (s.live .tx).drop 1
    else s.live .tx
  | _, _ => s.live .tx

/-- The byte `read_byte` has taken and not yet returned (R31). -/
def heldByte : MainState → Option Byte
  | .atRd3 _ d => some d
  | .atRd4 _ d => some d
  | .atRd5 _ d _ _ => some d
  | .atRd6 _ d _ _ => some d
  | _ => none

/-- The MAIN operation an instruction is. -/
def instrOp : Instr → Option MainOp
  | .init baud => some (.init baud)
  | .writeByte b => some (.writeByte b)
  | .readByte => some .readByte
  | .resetReadBuffer => some .resetReadBuffer
  | .rtTestAndClear m => some (.rtTestAndClear m)
  | _ => none

/-- The MAIN operation whose micro-steps the next step takes: the one its line names, or the one in progress. -/
def advancedOp (s : State) : Option MainOp :=
  match s.script with
  | .word bytes :: _ =>
    match decode s.params bytes with
    | .ok i => instrOp i
    | .reject _ => none
  | .move .main :: _ => s.main.op
  | .move _ :: _ => none
  | .opTo op _ :: _ => some op
  | .continueTo _ :: _ => s.main.op
  | .continueRest :: _ => s.main.op
  | [] => if Config.freeMove s.draws = .main then s.main.op else none

/-- The count that `read_byte` tests is below the low watermark: the one MAIN holds at Rd5, else the occupancy after the
pop. -/
def LowCount (s t : State) : Prop :=
  match s.main with
  | .atRd5 _ _ _ c => c < s.params.lowWatermark
  | _ => count s.params.rxN t.rx.head t.rx.tail < s.params.lowWatermark

/-- Push a list of bytes, one `try_push` after another. -/
def pushAll (buf : Buffer) : List Byte → State → Out
  | [], s => .next s
  | b :: rest, s => andThen (exec (.tryPush buf b) s) (pushAll buf rest)

end Sys2Proof.Claims

open Sys2Proof.Claims

/-! ## Encoding -/

/-- Every well-formed instruction, with every operand value its encoding admits, decodes from its own line, for every
legal choice of parameters. The layout beyond R83's fields is the model's (log entry 6). -/
def Obligations.DecodeOfEncodeIsTheInstruction : Prop :=
  ∀ (p : Params) (i : Instr), p.wf = true → i.wf p = true → decode p (encode p i) = .ok i

/-- Lines with the spec's selectors (R82), operand bytes of 95_test_vectors.md and default command and control bytes decode to
their instructions. The model's choices: the eight bytes, the format marks and the zero padding (log entry 6), the reading of
an unmarked line (log entry 7). The default byte values are PRESUMED (log entry 21). -/
def Obligations.WordsOfTheSpecDecode : Prop :=
  decode Params.default [0x01, 0x6F, 0, 0, 0, 0, 0, 0] = .ok (.writeByte 0x6F) ∧
  decode Params.default [0x02, 0, 0, 0, 0, 0, 0, 0] = .ok .readByte ∧
  decode Params.default [0x05, 0, 0, 0, 0, 0, 0, 0] = .ok .onTxReady ∧
  decode Params.default [0x08, 0x47, 1, 0, 0, 0, 0, 0] = .ok (.tryPush .tx 0x47) ∧
  decode Params.default [0x15, 0, 0, 0, 0, 0, 0, 0] = .ok .invokeEmergencyReset ∧
  decode Params.default [0x18, 0, 0, 1, 0, 0, 0, 0] = .ok .rxReset ∧
  decode Params.default [0x41, 0, 0, 1, 0, 0, 0, 0] = .ok (.rxForward 0x41) ∧
  decode Params.default [0x13, 0, 0, 2, 0, 0, 0, 0] = .ok .txPause

/-- R77: a line marked `OP` whose selector is not in the table of R82 names no operation: the decoder rejects it by that name.
The mark 3 that says `OP` is the model's (log entry 6); an unmarked line with such a byte is read as a received byte (log
entry 7) and is not meant here. -/
def Obligations.SelectorsOutsideTheTableAreRejected : Prop :=
  ∀ (p : Params) (f : Fields), f.mark = 3 →
    f.op ∉ ([0x00, 0x01, 0x02, 0x03, 0x04, 0x05, 0x06, 0x08, 0x09, 0x0A, 0x0B, 0x0C, 0x10, 0x11, 0x12, 0x13, 0x14, 0x15] :
      List Byte) →
    decodeFields p f = .reject .noSuchOperation

/-- R72: a received byte decodes to the row of its class, total over all byte values: the five commands by equality,
everything else forwarded unchanged. The line of eight bytes with the mark 1 for `RXBYTE` is the model's (log entry 6). -/
def Obligations.ReceivedBytesDecodeByEquality : Prop :=
  ∀ (p : Params) (b : Byte), p.wf = true →
    (b = p.cmdStatusReport → decode p [b, 0, 0, 1, 0, 0, 0, 0] = .ok .rxStatusReport) ∧
    (b = p.cmdCycleStart → decode p [b, 0, 0, 1, 0, 0, 0, 0] = .ok .rxCycleStart) ∧
    (b = p.cmdFeedHold → decode p [b, 0, 0, 1, 0, 0, 0, 0] = .ok .rxFeedHold) ∧
    (b = p.cmdSafetyDoor → decode p [b, 0, 0, 1, 0, 0, 0, 0] = .ok .rxSafetyDoor) ∧
    (b = p.cmdReset → decode p [b, 0, 0, 1, 0, 0, 0, 0] = .ok .rxReset) ∧
    (NoCommand p b → decode p [b, 0, 0, 1, 0, 0, 0, 0] = .ok (.rxForward b))

/-- The two-bit numbers of the flow-control states (R80, decision D26), each the code of one state. -/
def Obligations.FlowControlCodes : Prop :=
  FlowCtrl.code .resumeRequested = 0 ∧ FlowCtrl.code .resumeAcknowledged = 1 ∧ FlowCtrl.code .pauseRequested = 2 ∧
    FlowCtrl.code .pauseAcknowledged = 3 ∧ ∀ f, FlowCtrl.ofCode (FlowCtrl.code f) = f

/-- The latch in an external bitset: each flag at its own position, and no other bit of the word disturbed
(R10, R81, R142; positions by decision D17). -/
def Obligations.ExternalBitsetHoldsTheLatch : Prop :=
  ∀ (p : Params) (others : Nat) (f : RtFlags), p.wf = true →
    (rtBitset p f).testBit p.bitStatusReport = f.statusReport ∧
    (rtBitset p f).testBit p.bitCycleStart = f.cycleStart ∧
    (rtBitset p f).testBit p.bitFeedHold = f.feedHold ∧
    (rtBitset p f).testBit p.bitSafetyDoor = f.safetyDoor ∧
    ∀ k, k ≠ p.bitStatusReport → k ≠ p.bitCycleStart → k ≠ p.bitFeedHold → k ≠ p.bitSafetyDoor →
      (rtExternal p others f).testBit k = others.testBit k

/-! ## One step -/

/-- When the next line of the script decodes to an instruction, a step moves past the line and runs it. The script in State that
a step reads line by line is the model's choice (log entry 5); R86 gives its notation. -/
def Obligations.StepRunsTheDecodedLine : Prop :=
  ∀ (s : State) (bytes : List Byte) (rest : List Line) (i : Instr), s.params.wf = true →
    s.script = .word bytes :: rest → decode s.params bytes = .ok i → step s = exec i { s with script := rest }

/-- A word placed by `withFetchWord` is what the next step runs. The model's choice throughout: placing a line (log entry 19),
the line's layout (log entry 6) and the reading of a word without a mark (log entry 7). -/
def Obligations.PlacedWordRunsNext : Prop :=
  ∀ (s : State) (nbits w : Nat) (i : Instr), s.params = Params.default → decodeTableWord nbits w = some i →
    step (s.withFetchWord nbits w) = exec i s

/-- A move of an agent that the script names is the move the step makes (R60, R208, R212; the script is log entry 5). -/
def Obligations.ScriptNamesTheMover : Prop :=
  ∀ (s : State) (m : Move) (rest : List Line), s.params.wf = true → s.script = .move m :: rest →
    step s = perform m { s with script := rest }

/-- A step is refused for its parameters if and only if they break a constraint of R6 to R10 and R234 (treatment U8; log
entry 25). -/
def Obligations.IllegalParametersAreRefused : Prop :=
  ∀ s : State,
    (step s = .refused .illegalParameters) ↔
      ¬(2 ≤ s.params.rxN ∧ 2 ≤ s.params.txN ∧
        (s.params.xonxoffEnable = true →
          1 ≤ s.params.lowWatermark ∧ s.params.lowWatermark < s.params.highWatermark ∧
            s.params.highWatermark < s.params.rxN - 1) ∧
        [s.params.cmdStatusReport, s.params.cmdCycleStart, s.params.cmdFeedHold, s.params.cmdSafetyDoor,
          s.params.cmdReset].Nodup ∧
        s.params.pauseByte ≠ s.params.resumeByte ∧
        [s.params.bitStatusReport, s.params.bitCycleStart, s.params.bitFeedHold, s.params.bitSafetyDoor].Nodup)

/-- The values of R39 after reset, for every choice of parameters. The indices are the source's words; the other values
are the spec's decisions D2, D3, D6, D17 and D21. -/
def Obligations.ResetValues : Prop :=
  ∀ p : Params,
    (State.resetWith p).rx.head = 0 ∧ (State.resetWith p).rx.tail = 0 ∧
    (State.resetWith p).tx.head = 0 ∧ (State.resetWith p).tx.tail = 0 ∧
    (State.resetWith p).flowCtrl = .resumeAcknowledged ∧ (State.resetWith p).txIrqEn = false ∧
    (State.resetWith p).rtPending = ⟨false, false, false, false⟩ ∧ (State.resetWith p).main = .idle ∧
    (State.resetWith p).wireIn = [] ∧ (State.resetWith p).wireOut = [] ∧ (State.resetWith p).resetCalls = 0 ∧
    (State.resetWith p).invocable .onRxReady = false ∧ (State.resetWith p).invocable .onTxReady = false ∧
    (State.resetWith p).params = p ∧ State.reset = State.resetWith Params.default

/-! ## Invariants -/

/-- The invariant of R37, R30, R99 and R154 holds after reset, for every legal choice of parameters; so do the armed
rules. -/
def Obligations.InvariantHoldsAtReset : Prop :=
  (∀ p : Params, p.wf = true → (State.resetWith p).Inv ∧ (State.resetWith p).Armed) ∧ State.reset.Inv

/-- Every step of every agent, and every instruction, keeps the invariant: indices in range, canonical storage, live bytes
written, MAIN's locals still good, flow control held when not built in; and no step writes a parameter. -/
def Obligations.EveryStepKeepsTheInvariant : Prop :=
  ∀ s t : State, s.Inv → step s = .next t → t.Inv ∧ t.params = s.params

/-- Armed while data is queued (R246) and while requested (R123): every step keeps it but two calls that no agent makes on its
own (R221). -/
def Obligations.EveryStepKeepsTheInterruptArmed : Prop :=
  ∀ s t : State, s.Inv → s.Armed → (∀ l, s.script.head? = some l → ¬disarming s.params l) → step s = .next t → t.Armed

/-- An out-of-range index cannot occur (R55): no step from a state with the invariant faults. -/
def Obligations.NoStepFaults : Prop :=
  ∀ (s : State) (f : Fault), s.Inv → step s ≠ .fault f

/-- No rule reads a storage byte that has not been written since reset (R30): with the invariant, the byte a pop answers is
the byte last written at the tail, in the shared pop, in `try_pop` (called by itself: log entry 10), in micro-step Rd2 (which
goes on) and in the byte the TX handler takes from the buffer and sends. -/
def Obligations.PopsReadWrittenBytes : Prop :=
  (∀ (s u : State) (buf : Buffer) (d : Byte), s.Inv → ringPop buf s = .next (some d, u) →
    (s.ring buf).storage.lookup (s.ring buf).tail = some d) ∧
  (∀ (s t : State) (buf : Buffer) (d : Byte), s.Inv → exec (.tryPop buf) s = .next t →
    t.returns = s.returns ++ [.popped (some d)] → (s.ring buf).storage.lookup (s.ring buf).tail = some d) ∧
  (∀ (s : State) (h : Nat), s.Inv → s.main = .atRd2 h →
    ∃ d, perform .main s = .next { s with main := .atRd3 h d } ∧ s.rx.storage.lookup s.rx.tail = some d) ∧
  (∀ s t : State, s.Inv → perform .irqTx s = .next t → t.tx.tail ≠ s.tx.tail →
    ∃ d, t.wireOut = s.wireOut ++ [d] ∧ s.tx.storage.lookup s.tx.tail = some d)

/-- A quiescent state with the interrupt disarmed has nothing queued and no request pending (R265). -/
def Obligations.QuiescentStatesAreDrained : Prop :=
  ∀ s : State, s.Inv → s.Armed → s.quiescent → s.txIrqEn = false →
    s.live .tx = [] ∧ s.flowCtrl ≠ .pauseRequested ∧ s.flowCtrl ≠ .resumeRequested

/-! ## The ring buffer -/

/-- R91: `count(h, t)` is `h - t` when `h >= t` and `h - t + N` when `h < t`, it is in 0..N-1, and it is the integer
`(h - t) mod N`. -/
def Obligations.OccupancyIsTheDistanceModuloN : Prop :=
  ∀ n h t : Nat, h < n → t < n →
    (t ≤ h → count n h t = h - t) ∧ (h < t → count n h t = h + n - t) ∧ count n h t < n ∧
      (count n h t : Int) = ((h : Int) - (t : Int)) % (n : Int)

/-- R90: `next(i)` is `i + 1` for `i < N - 1` and 0 for `i = N - 1` (decision D12: `N >= 2`, no power of two asked). -/
def Obligations.SuccessorWrapsAtCapacity : Prop :=
  ∀ n i : Nat, 2 ≤ n → i < n →
    (i < n - 1 → nextIndex n i = i + 1) ∧ (i = n - 1 → nextIndex n i = 0) ∧ nextIndex n i < n ∧ nextIndex n i ≠ i

/-- R92: empty is `head == tail` and occupancy 0, full is `next(head) == tail` and occupancy N - 1, the occupancy is never
more than N - 1; with the default capacities 127 and 63. -/
def Obligations.EmptyAndFullByOccupancy : Prop :=
  (∀ (s : State) (buf : Buffer), 2 ≤ s.cap buf → s.indexOk buf →
    (RingEmpty buf s ↔ s.occupancy buf = 0) ∧ (RingFull buf s ↔ s.occupancy buf = s.cap buf - 1) ∧
      (s.isEmpty buf = true ↔ RingEmpty buf s) ∧ (s.isFull buf = true ↔ RingFull buf s) ∧
      s.occupancy buf ≤ s.cap buf - 1) ∧
  Params.default.cap .rx - 1 = 127 ∧ Params.default.cap .tx - 1 = 63

/-- R93: the identities of `count` and `next`. -/
def Obligations.OccupancyIdentities : Prop :=
  ∀ n h t : Nat, 2 ≤ n → h < n → t < n →
    (count n h t < n - 1 → count n (nextIndex n h) t = count n h t + 1) ∧
    (0 < count n h t → count n h (nextIndex n t) = count n h t - 1) ∧
    count n h h = 0

/-- R94: `try_push`. Full: the answer is false and no state is changed. Otherwise the byte is stored at the head, the head
advances, the answer is true, and every other slot reads as before. For TX, whose producer is MAIN, MAIN is idle: that a
primitive of MAIN's role, called by itself, is one transition is the model's choice (log entry 10), where R94 has micro-steps. -/
def Obligations.TryPushStoresOrRefuses : Prop :=
  ∀ (s : State) (buf : Buffer) (b : Byte), (buf = .tx → s.main = .idle) → (s.ring buf).head < s.cap buf →
    (RingFull buf s → exec (.tryPush buf b) s = .next (s.record (.pushed false))) ∧
    (¬RingFull buf s →
      exec (.tryPush buf b) s = .next ((afterPush buf b s).record (.pushed true)) ∧
      (∀ i, (afterPush buf b s).slot buf i = if i = (s.ring buf).head then b else s.slot buf i) ∧
      ∀ other i, other ≠ buf → (afterPush buf b s).slot other i = s.slot other i)

/-- R96: `try_pop`. Empty: the answer is None and nothing changes. Otherwise the answer is the byte at the tail, the tail
advances, and every slot of both buffers reads as before. For RX, whose consumer is MAIN, MAIN is idle: that a primitive of
MAIN's role, called by itself, is one transition is the model's choice (log entry 10), where R96 has micro-steps Rd1 to Rd3. -/
def Obligations.TryPopTakesTheByteAtTheTail : Prop :=
  ∀ (s : State) (buf : Buffer), (buf = .rx → s.main = .idle) → (s.ring buf).tail < s.cap buf →
    (RingEmpty buf s → exec (.tryPop buf) s = .next (s.record (.popped none))) ∧
    (¬RingEmpty buf s →
      exec (.tryPop buf) s = .next ((afterPop buf s).record (.popped (some (s.slot buf (s.ring buf).tail)))) ∧
      ∀ other i, (afterPop buf s).slot other i = s.slot other i)

/-- R98: `occupancy` writes nothing and answers `count(head, tail)`, from one snapshot of the foreign index, for a caller of
either role (decision D33). Called by itself it is one transition: the model's choice (log entry 10). -/
def Obligations.OccupancyIsReportedToEitherRole : Prop :=
  ∀ (s : State) (buf : Buffer),
    exec (.occupancy buf) s = .next (s.record (.count (count (s.cap buf) (s.ring buf).head (s.ring buf).tail))) ∧
    (∀ c, occupancyFrom s buf c = count (s.cap buf) (s.ring buf).head (s.ring buf).tail) ∧
    (s.indexOk buf → count (s.cap buf) (s.ring buf).head (s.ring buf).tail ≤ s.cap buf - 1)

/-- R100: ring `reset` writes the tail with the head, nothing else, and leaves occupancy 0; the storage is untouched. For RX,
whose consumer is MAIN, MAIN is idle: that it is one transition when called by itself is the model's choice (log entry 10),
where R101 (c) has micro-steps Rs1 and Rs2. That it is offered for TX, where no operation of the block calls it, is too. -/
def Obligations.RingResetDiscardsByMovingTheTail : Prop :=
  ∀ (s : State) (buf : Buffer), (buf = .rx → s.main = .idle) →
    exec (.reset buf) s = .next (s.setTail buf (s.ring buf).head) ∧
    (s.setTail buf (s.ring buf).head).occupancy buf = 0 ∧
    ∀ other i, (s.setTail buf (s.ring buf).head).slot other i = s.slot other i

/-- R102: from an empty buffer, pushes 1 to N - 1 in a row answer true and leave occupancy 1 to N - 1, with the bytes live in
their order; push N answers false and changes nothing else; with the defaults RX accepts 127 bytes and TX 63. The pushes are
`try_push` called by itself, one transition each: the model's choice (log entry 10). -/
def Obligations.CapacityIsOneLessThanStorage : Prop :=
  (∀ (s : State) (buf : Buffer) (bs : List Byte), (buf = .tx → s.main = .idle) → 2 ≤ s.cap buf → s.indexOk buf →
    RingEmpty buf s → bs.length ≤ s.cap buf - 1 →
    ∃ t, pushAll buf bs s = .next t ∧ t.returns = s.returns ++ List.replicate bs.length (.pushed true) ∧
      t.occupancy buf = bs.length ∧ t.live buf = bs ∧
      (bs.length = s.cap buf - 1 → ∀ b, exec (.tryPush buf b) t = .next (t.record (.pushed false)))) ∧
  Params.default.rxN - 1 = 127 ∧ Params.default.txN - 1 = 63

/-- R103, R37 (e), R160: over the moves of the agents the live bytes of each buffer are a first-in first-out queue: only an
accepted push appends, only a pop takes, and it takes the oldest; only `reset_read_buffer` discards, and what it discards is
a run of the oldest; the data byte sent is the oldest. The byte `read_byte` takes is the oldest, it is still the oldest when
it is popped, MAIN holds it whatever runs between its micro-steps, and it is what `read_byte` returns. -/
def Obligations.BuffersAreQueues : Prop :=
  ∀ (m : Move) (s t : State), s.Inv → perform m s = .next t →
    t.live .rx = rxQueueAfter m s ∧ t.live .tx = txQueueAfter m s ∧
    (∀ d, heldByte s.main = none → heldByte t.main = some d →
      m = .main ∧ s.main.mstep = some .rd2 ∧ (s.live .rx).head? = some d) ∧
    (∀ h d, s.main = .atRd3 h d → (s.live .rx).head? = some d) ∧
    (∀ d, heldByte s.main = some d →
      (heldByte t.main = some d ∧ t.returns = s.returns) ∨
        (m = .main ∧ t.main = .idle ∧ t.returns = s.returns ++ [.data d])) ∧
    (∀ d, t.returns = s.returns ++ [.data d] → m = .main ∧ heldByte s.main = some d) ∧
    (m = .irqTx → s.invocable .onTxReady = true → pauseDue s = false → resumeByteDue s = false →
      t.wireOut = s.wireOut ++ (s.live .tx).take 1)

/-! ## Flow control -/

/-- R114, R115 and their complement: TX.PAUSE is sent when a pause is requested, TX.RESUME when a resume is requested, with
the transition of the register and nothing else changed. That the row runs by itself, in any state and context, and leaves
the state as it is where it is not the byte to send, is the model's choice (log entry 9). State names by decision D1. -/
def Obligations.ControlBytesAreSentInTheirRequestStates : Prop :=
  ∀ s : State,
    (s.params.xonxoffEnable = true → s.flowCtrl = .pauseRequested →
      exec .txPause s =
        .next { s with wireOut := s.wireOut ++ [s.params.pauseByte], flowCtrl := .pauseAcknowledged }) ∧
    (s.params.xonxoffEnable = true → s.flowCtrl = .resumeRequested →
      exec .txResume s =
        .next { s with wireOut := s.wireOut ++ [s.params.resumeByte], flowCtrl := .resumeAcknowledged }) ∧
    (s.params.xonxoffEnable = false ∨ s.flowCtrl ≠ .pauseRequested → exec .txPause s = .next s) ∧
    (s.params.xonxoffEnable = false ∨ s.flowCtrl ≠ .resumeRequested → exec .txResume s = .next s)

/-- The data path of R170: TX.DATA of the oldest queued byte, with no control byte before it, pops and sends it, whatever its
value (R75). That the row runs by itself, in any state and context, and leaves the state as it is where its byte
is not the one to send, is the model's choice (log entry 9). -/
def Obligations.DataBytesAreSentFromTheTail : Prop :=
  ∀ (s : State) (v : Byte), s.tx.tail < s.params.txN →
    (¬RingEmpty .tx s → v = s.slot .tx s.tx.tail →
      (s.params.xonxoffEnable = false ∨ s.flowCtrl.isRequest = false) →
      exec (.txData v) s = .next { afterPop .tx s with wireOut := s.wireOut ++ [v] }) ∧
    (RingEmpty .tx s ∨ v ≠ s.slot .tx s.tx.tail ∨ (s.params.xonxoffEnable = true ∧ s.flowCtrl.isRequest = true) →
      exec (.txData v) s = .next s)

/-- R111, R112 to R117: whatever line a step runs, the register moves only along the four edges of the cycle, each with its
cause and its effect (an accepted push that reaches the high watermark; the pause byte sent; `read_byte` with its count below
the low watermark; the resume byte sent), or to the go state in `reset_read_buffer`, with nothing sent. -/
def Obligations.FlowControlMovesAlongTheCycle : Prop :=
  ∀ s t : State, step s = .next t → t.flowCtrl ≠ s.flowCtrl →
    (s.params.xonxoffEnable = true ∧ s.flowCtrl = .resumeAcknowledged ∧ t.flowCtrl = .pauseRequested ∧
      t.txIrqEn = true ∧ s.params.highWatermark ≤ count s.params.rxN t.rx.head t.rx.tail ∧ ¬RingFull .rx s ∧
      ∃ b, t.rx = (afterPush .rx b s).rx) ∨
    (s.params.xonxoffEnable = true ∧ s.flowCtrl = .pauseRequested ∧ t.flowCtrl = .pauseAcknowledged ∧
      t.wireOut = s.wireOut ++ [s.params.pauseByte] ∧ t.tx = s.tx) ∨
    (s.flowCtrl = .pauseAcknowledged ∧ t.flowCtrl = .resumeRequested ∧ t.wireOut = s.wireOut ∧
      advancedOp s = some .readByte ∧ LowCount s t) ∨
    (s.params.xonxoffEnable = true ∧ s.flowCtrl = .resumeRequested ∧ t.flowCtrl = .resumeAcknowledged ∧
      t.wireOut = s.wireOut ++ [s.params.resumeByte] ∧ t.tx = s.tx) ∨
    (t.flowCtrl = .resumeAcknowledged ∧ t.wireOut = s.wireOut ∧ advancedOp s = some .resetReadBuffer)

/-- R74, R118, R122: a move sends at most one byte and only the TX handler sends: the pause byte when a pause is requested,
the resume byte when a resume is requested, else the oldest queued byte; without flow control no control byte is sent. -/
def Obligations.OneByteIsSentPerHandler : Prop :=
  ∀ (m : Move) (s t : State), perform m s = .next t →
    t.wireOut = s.wireOut ∨
    (m = .irqTx ∧ s.txIrqEn = true ∧ s.txReady = true ∧
      ((s.params.xonxoffEnable = true ∧ s.flowCtrl = .pauseRequested ∧
          t.wireOut = s.wireOut ++ [s.params.pauseByte] ∧ t.tx = s.tx) ∨
        (s.params.xonxoffEnable = true ∧ s.flowCtrl = .resumeRequested ∧
          t.wireOut = s.wireOut ++ [s.params.resumeByte] ∧ t.tx = s.tx) ∨
        ((s.params.xonxoffEnable = false ∨ s.flowCtrl.isRequest = false) ∧ s.tx.head ≠ s.tx.tail ∧
          t.wireOut = s.wireOut ++ [s.slot .tx s.tx.tail])))

/-- R116: the forced go, micro-step Rs3, from any of the four states: the register is the go state, nothing is sent, the
interrupt enable and everything else of the block stand. -/
def Obligations.ForcedGoIsABlindWrite : Prop :=
  ∀ (s : State) (h : Nat), s.main = .atRs3 h →
    perform .main s = .next { s with flowCtrl := .resumeAcknowledged, main := .idle }

/-! ## The interceptor -/

/-- R130: `classify` is total, a function of the byte and the five parameters; as an operation it writes no state but the
answer. That it may be called by itself, in any state, is the model's choice (log entry 26). -/
def Obligations.ClassifyByTheFiveCommands : Prop :=
  ∀ (s : State) (b : Byte),
    exec (.classify b) s = .next (s.record (.action
      (if b = s.params.cmdStatusReport then .intercepted .statusReport
      else if b = s.params.cmdCycleStart then .intercepted .cycleStart
      else if b = s.params.cmdFeedHold then .intercepted .feedHold
      else if b = s.params.cmdSafetyDoor then .intercepted .safetyDoor
      else if b = s.params.cmdReset then .intercepted .reset
      else .forward b)))

/-- R132 to R135: each of the four flag effects sets its flag and writes no other state. That the row runs by itself, in any
state and context, is the model's choice (log entry 27). -/
def Obligations.FlagEffectsSetOneFlag : Prop :=
  ∀ s : State,
    exec .rxStatusReport s = .next { s with rtPending := { s.rtPending with statusReport := true } } ∧
    exec .rxCycleStart s = .next { s with rtPending := { s.rtPending with cycleStart := true } } ∧
    exec .rxFeedHold s = .next { s with rtPending := { s.rtPending with feedHold := true } } ∧
    exec .rxSafetyDoor s = .next { s with rtPending := { s.rtPending with safetyDoor := true } }

/-- R136: the reset command appends one event and leaves every field of the block as it was; it is no latch
(decision D19). That the row runs by itself, in any state and context, is the model's choice (log entry 27). -/
def Obligations.ResetCommandCallsTheRoutineOnce : Prop :=
  ∀ s : State, exec .rxReset s = .next { s with resetCalls := s.resetCalls + 1 }

/-- A forwarded byte: dropped in silence when RX is full (R201); pushed otherwise; with a pause request exactly when the
occupancy after the push has reached the high watermark in the go state (R112). That the row runs by itself, in any state and
context, is the model's choice (log entry 27). -/
def Obligations.ForwardedBytesArePushedOrDropped : Prop :=
  ∀ (s : State) (b : Byte), s.rx.head < s.params.rxN →
    ForwardAnswer b s (exec (.rxForward b) s) ∧
    (¬RingFull .rx s → ∀ i, (afterPush .rx b s).slot .rx i = if i = s.rx.head then b else s.slot .rx i) ∧
    ∀ i, (afterPush .rx b s).slot .tx i = s.slot .tx i

/-- R29: over the moves of the agents, a flag goes from 0 to 1 only in `on_rx_ready` on its own command byte, and from 1 to 0
only in `rt_test_and_clear` with that flag in the mask. -/
def Obligations.FlagsAreSetByCommandAndClearedByTheConsumer : Prop :=
  LatchRule RtFlags.statusReport Params.cmdStatusReport ∧ LatchRule RtFlags.cycleStart Params.cmdCycleStart ∧
    LatchRule RtFlags.feedHold Params.cmdFeedHold ∧ LatchRule RtFlags.safetyDoor Params.cmdSafetyDoor

/-- R141: `rt_test_and_clear(m)` answers the set flags of `m` and clears all flags of `m`; flags outside `m` are neither
answered nor cleared (the mask operand is decision D18; the operation as one step is log entry 17). -/
def Obligations.TestAndClearAnswersAndClearsTheMask : Prop :=
  ∀ (s : State) (m : RtFlags), s.main = .idle →
    ∃ r c : RtFlags,
      exec (.rtTestAndClear m) s = .next { s with rtPending := c, returns := s.returns ++ [.flags r] } ∧
      ∀ flag ∈ [RtFlags.statusReport, RtFlags.cycleStart, RtFlags.feedHold, RtFlags.safetyDoor],
        (flag r = true ↔ flag m = true ∧ flag s.rtPending = true) ∧
        (flag m = true → flag c = false) ∧ (flag m = false → flag c = flag s.rtPending)

/-! ## The driver -/

/-- R150: `init` from idle records the baud value in the UART, after which the RX-ready interrupt is live; it writes no
state of the block (decision D28). Before any `init` has returned neither handler can be invoked (R232; for TX-ready that is
DEDUCED, log entry 13). The field that records the baud value is log entry 24, a second `init` log entry 12, the operation as
one step log entry 17. -/
def Obligations.InitMakesTheInterruptsLive : Prop :=
  ∀ (s : State) (baud : Baud), s.main = .idle →
    exec (.init baud) s = .next { s with uart := some baud } ∧
    State.enabled { s with uart := some baud } .onRxReady = true ∧
    (s.uart = none → s.invocable .onRxReady = false ∧ s.invocable .onTxReady = false)

/-- `write_byte` with no interrupt inside it (R152, R86, decisions D6, D9, D10). A free slot: stored, published, armed, Done,
whatever `abort` is. Full with `abort`: Aborted and nothing else. Full without: no state of the block is changed and MAIN
waits; that the instruction ends after two turns, with MAIN at W2, is DEDUCED (log entry 17). -/
def Obligations.WriteByteQueuesAbortsOrWaits : Prop :=
  ∀ (s : State) (b : Byte), s.main = .idle → s.tx.head < s.params.txN →
    (¬RingFull .tx s →
      exec (.writeByte b) s =
        .next { afterPush .tx b s with txIrqEn := true, returns := s.returns ++ [.done] } ∧
      (∀ i, (afterPush .tx b s).slot .tx i = if i = s.tx.head then b else s.slot .tx i) ∧
      ∀ i, (afterPush .tx b s).slot .rx i = s.slot .rx i) ∧
    (RingFull .tx s → s.abort = true → exec (.writeByte b) s = .next { s with returns := s.returns ++ [.aborted] }) ∧
    (RingFull .tx s → s.abort = false →
      exec (.writeByte b) s = .next { s with main := .atW2 b (nextIndex s.params.txN s.tx.head) (some s.tx.tail) })

/-- R203: micro-step W3 with `abort` returns Aborted with no state changed and the byte not queued; and `Aborted` is
returned by no move but W3 with `abort`. -/
def Obligations.AbortedOnlyFromTheWaitLoop : Prop :=
  ∀ (s : State),
    (∀ b nh t, s.main = .atW3 b nh t → s.abort = true →
      perform .main s = .next { s with main := .idle, returns := s.returns ++ [.aborted] }) ∧
    (∀ m t, perform m s = .next t → t.returns = s.returns ++ [.aborted] →
      m = .main ∧ s.main.mstep = some .w3 ∧ s.abort = true)

/-- R204: micro-step Rd1 with RX empty returns NoData with no state changed; and `NoData` is returned by no move but Rd1
with RX empty. -/
def Obligations.NoDataOnlyFromAnEmptyBuffer : Prop :=
  ∀ (s : State),
    (s.main = .atRd1 → RingEmpty .rx s →
      perform .main s = .next { s with main := .idle, returns := s.returns ++ [.noData] }) ∧
    (∀ m t, perform m s = .next t → t.returns = s.returns ++ [.noData] →
      m = .main ∧ s.main.mstep = some .rd1 ∧ RingEmpty .rx s)

/-- A waiting writer that finds TX full on two turns is where it was: the hang of R263 (a); with `abort` it returns within one
turn (R155). -/
def Obligations.WaitingWriterTurnsOrAborts : Prop :=
  ∀ (s : State) (b : Byte) (nh : Nat) (t : Option Nat), s.main = .atW2 b nh t → nh = s.tx.tail →
    (s.abort = false →
      andThen (perform .main s) (perform .main) = .next { s with main := .atW2 b nh (some s.tx.tail) }) ∧
    (s.abort = true →
      andThen (perform .main s) (perform .main) = .next { s with main := .idle, returns := s.returns ++ [.aborted] })

/-- The push cannot fail (R154): a writer at W4 with the invariant, left to run, queues its byte and returns Done. -/
def Obligations.WriterPastTheTestCompletes : Prop :=
  ∀ (s : State) (b : Byte) (nh t : Nat), s.Inv → s.main = .atW4 b nh t →
    runLine .continueRest s =
      .next { afterPush .tx b s with txIrqEn := true, main := .idle, returns := s.returns ++ [.done] } ∧
    ¬RingFull .tx s

/-- `read_byte` with no interrupt inside it (R157, R204, R113, R86; decisions D6, D11, D29; log entry 17). Empty: NoData and
nothing else. Otherwise the byte at the tail, the tail advanced, and a resume request with the interrupt armed exactly when
flow control is built in, the occupancy after the pop is below the low watermark and the state is PauseAcknowledged. -/
def Obligations.ReadBytePopsAndRequestsResume : Prop :=
  ∀ s : State, s.main = .idle → s.rx.tail < s.params.rxN →
    (RingEmpty .rx s → exec .readByte s = .next { s with returns := s.returns ++ [.noData] }) ∧
    (¬RingEmpty .rx s →
      (s.params.xonxoffEnable = true ∧ (afterPop .rx s).occupancy .rx < s.params.lowWatermark ∧
          s.flowCtrl = .pauseAcknowledged →
        exec .readByte s = .next { afterPop .rx s with
          flowCtrl := .resumeRequested, txIrqEn := true, returns := s.returns ++ [.data (s.slot .rx s.rx.tail)] }) ∧
      (¬(s.params.xonxoffEnable = true ∧ (afterPop .rx s).occupancy .rx < s.params.lowWatermark ∧
          s.flowCtrl = .pauseAcknowledged) →
        exec .readByte s =
          .next { afterPop .rx s with returns := s.returns ++ [.data (s.slot .rx s.rx.tail)] }) ∧
      ∀ buf i, (afterPop .rx s).slot buf i = s.slot buf i)

/-- `reset_read_buffer` with no interrupt inside it (R162, R86, decision D6; log entry 17): RX is emptied by moving the tail, the
register is forced to go (where flow control is built in), nothing is sent and the interrupt enable stands. -/
def Obligations.ResetReadBufferDiscardsAndForcesGo : Prop :=
  ∀ s : State, s.main = .idle →
    exec .resetReadBuffer s = .next { s with
      rx := { s.rx with tail := s.rx.head }
      flowCtrl := if s.params.xonxoffEnable then .resumeAcknowledged else s.flowCtrl } ∧
    (∀ t, exec .resetReadBuffer s = .next t →
      t.occupancy .rx = 0 ∧ exec .resetReadBuffer t = .next t ∧ ∀ buf i, t.slot buf i = s.slot buf i)

/-- `on_rx_ready` (R166), invoked with a byte on the wire: the byte is consumed, and exactly one of: one flag set, the reset
routine called, the byte forwarded, whatever the buffers hold. -/
def Obligations.OnRxReadyConsumesOneByte : Prop :=
  ∀ (s : State) (b : Byte) (rest : List Byte), s.params.wf = true → s.uart.isSome = true → s.wireIn = b :: rest →
    s.rx.head < s.params.rxN →
    (b = s.params.cmdStatusReport → exec .onRxReady s =
      .next { s with wireIn := rest, rtPending := { s.rtPending with statusReport := true } }) ∧
    (b = s.params.cmdCycleStart → exec .onRxReady s =
      .next { s with wireIn := rest, rtPending := { s.rtPending with cycleStart := true } }) ∧
    (b = s.params.cmdFeedHold → exec .onRxReady s =
      .next { s with wireIn := rest, rtPending := { s.rtPending with feedHold := true } }) ∧
    (b = s.params.cmdSafetyDoor → exec .onRxReady s =
      .next { s with wireIn := rest, rtPending := { s.rtPending with safetyDoor := true } }) ∧
    (b = s.params.cmdReset → exec .onRxReady s =
      .next { s with wireIn := rest, resetCalls := s.resetCalls + 1 }) ∧
    (NoCommand s.params b → ForwardAnswer b { s with wireIn := rest } (exec .onRxReady s)) ∧
    (∀ i, (afterPush .rx b { s with wireIn := rest }).slot .rx i = if i = s.rx.head then b else s.slot .rx i) ∧
    ∀ i, (afterPush .rx b { s with wireIn := rest }).slot .tx i = s.slot .tx i

/-- R201: a forwarded byte that finds RX full is discarded: nothing changes but the wire it was read from. -/
def Obligations.OverflowDropsInSilence : Prop :=
  ∀ (s : State) (b : Byte) (rest : List Byte), s.uart.isSome = true → s.wireIn = b :: rest → RingFull .rx s →
    NoCommand s.params b → exec .onRxReady s = .next { s with wireIn := rest }

/-- `on_tx_ready` (R170, decisions D7, D8), invoked armed with the UART ready: a requested control byte, else the oldest queued
byte, else nothing; and the interrupt disarmed in the same transition when TX is left empty. -/
def Obligations.OnTxReadySendsOneByte : Prop :=
  ∀ s : State, s.uart.isSome = true → s.txIrqEn = true → s.txReady = true → s.tx.tail < s.params.txN →
    (s.params.xonxoffEnable = true → s.flowCtrl = .pauseRequested → exec .onTxReady s =
      .next { s with wireOut := s.wireOut ++ [s.params.pauseByte], flowCtrl := .pauseAcknowledged,
                     txIrqEn := decide (s.tx.head ≠ s.tx.tail) }) ∧
    (s.params.xonxoffEnable = true → s.flowCtrl = .resumeRequested → exec .onTxReady s =
      .next { s with wireOut := s.wireOut ++ [s.params.resumeByte], flowCtrl := .resumeAcknowledged,
                     txIrqEn := decide (s.tx.head ≠ s.tx.tail) }) ∧
    (s.params.xonxoffEnable = false ∨ s.flowCtrl.isRequest = false →
      (¬RingEmpty .tx s → exec .onTxReady s =
        .next { afterPop .tx s with wireOut := s.wireOut ++ [s.slot .tx s.tx.tail],
                                    txIrqEn := decide (s.tx.head ≠ nextIndex s.params.txN s.tx.tail) }) ∧
      (RingEmpty .tx s → exec .onTxReady s = .next { s with txIrqEn := false })) ∧
    ∀ buf i, (afterPop .tx s).slot buf i = s.slot buf i

/-! ## The outward calls and the environment -/

/-- R181 to R186: what each outward call does, and nothing else (decisions D3, D19, D21, D28). That a call may be made by itself,
in any state, is the model's choice (log entry 26). The field for `configure_uart` is log entry 24. Without a received byte,
`hardware_receive_byte` answers a free value (log entry 15). -/
def Obligations.OutwardCallsHaveTheirEffects : Prop :=
  ∀ (s : State) (baud : Baud) (v : Byte),
    exec (.configureUart baud) s = .next { s with uart := some baud } ∧
    exec (.hardwareSendByte v) s = .next { s with wireOut := s.wireOut ++ [v] } ∧
    (∀ b rest, s.wireIn = b :: rest →
      exec .hardwareReceiveByte s = .next { s with wireIn := rest, returns := s.returns ++ [.byte b] }) ∧
    (s.wireIn = [] → ∃ b n,
      exec .hardwareReceiveByte s = .next { s with draws := n, returns := s.returns ++ [.byte b] }) ∧
    exec .enableTxInterrupt s = .next { s with txIrqEn := true } ∧
    exec .disableTxInterrupt s = .next { s with txIrqEn := false } ∧
    exec .invokeEmergencyReset s = .next { s with resetCalls := s.resetCalls + 1 }

/-- R191: what ENV may do, at any time, and nothing else: append any byte to the wire, drive `tx_ready`, drive `abort`. A byte
that arrives before `init` has returned is not seen (R233; log entry 14). -/
def Obligations.EnvironmentMovesAreItsInputsOnly : Prop :=
  ∀ (s : State) (b : Byte) (v : Bool),
    (s.uart.isSome = true → perform (.envRx b) s = .next { s with wireIn := s.wireIn ++ [b] }) ∧
    (s.uart = none → perform (.envRx b) s = .next s) ∧
    perform (.envTxReady v) s = .next { s with txReady := v } ∧
    perform (.envAbort v) s = .next { s with abort := v }

/-- R255: in a bare-byte interface an empty read and a data byte equal to `NO_DATA` are the same byte, and no other byte is
answered for an empty read; the tagged results differ. -/
def Obligations.SentinelCannotTellNoDataFromItsOwnByte : Prop :=
  ∀ (p : Params) (d : Byte),
    (sentinelByte p (.data d) = sentinelByte p .noData ↔ d = p.noData) ∧ Result.data d ≠ Result.noData

/-! ## Contexts -/

/-- R206 to R208, R232: a handler that is not enabled and pending is not invoked: the line changes nothing (log entry 11). That
TX-ready is not enabled before `init` has returned is R232 read with R207, DEDUCED (log entry 13). -/
def Obligations.HandlersRunOnlyWhenInvocable : Prop :=
  ∀ s : State,
    (s.uart = none ∨ s.wireIn = [] → exec .onRxReady s = .next s ∧ perform .irqRx s = .next s) ∧
    (s.uart = none ∨ s.txIrqEn = false ∨ s.txReady = false →
      exec .onTxReady s = .next s ∧ perform .irqTx s = .next s)

/-- R32, R191, U10: MAIN runs one operation at a time: while one is in progress a second operation of MAIN, or a ring primitive
of MAIN's role called by itself (log entry 10), is refused by name (log entry 22). -/
def Obligations.SecondMainOperationIsRefused : Prop :=
  ∀ (s : State), s.main ≠ .idle →
    ∀ i, (∃ baud, i = .init baud) ∨ (∃ b, i = .writeByte b) ∨ i = .readByte ∨ i = .resetReadBuffer ∨
        (∃ m, i = .rtTestAndClear m) ∨ (∃ b, i = .tryPush .tx b) ∨ i = .tryPop .rx ∨ i = .reset .rx →
      exec i s = .refused .mainBusy

/-- R220, R214, R216: the writer of every field. MAIN writes neither `RX.head`, `RX.storage`, `TX.tail` nor what ENV and the handlers own;
a handler writes neither `RX.tail`, `TX.head`, `TX.storage` nor MAIN's operation, micro-step and locals; MAIN and `on_rx_ready`
only arm, `on_tx_ready` only disarms; ENV writes its inputs only. -/
def Obligations.EveryFieldHasItsWriters : Prop :=
  ∀ (m : Move) (s t : State), perform m s = .next t →
    ((m = .main ∨ ∃ op, m = .start op) →
      t.rx.head = s.rx.head ∧ t.rx.storage = s.rx.storage ∧ t.tx.tail = s.tx.tail ∧ t.wireIn = s.wireIn ∧
      t.wireOut = s.wireOut ∧ t.resetCalls = s.resetCalls ∧ t.txReady = s.txReady ∧ t.abort = s.abort ∧
      (s.txIrqEn = true → t.txIrqEn = true)) ∧
    (m = .irqRx →
      t.rx.tail = s.rx.tail ∧ t.tx = s.tx ∧ t.main = s.main ∧ t.returns = s.returns ∧ t.wireOut = s.wireOut ∧
      t.txReady = s.txReady ∧ t.abort = s.abort ∧ t.uart = s.uart ∧ (s.txIrqEn = true → t.txIrqEn = true)) ∧
    (m = .irqTx →
      t.tx.head = s.tx.head ∧ t.tx.storage = s.tx.storage ∧ t.rx = s.rx ∧ t.main = s.main ∧ t.returns = s.returns ∧
      t.rtPending = s.rtPending ∧ t.wireIn = s.wireIn ∧ t.resetCalls = s.resetCalls ∧ t.txReady = s.txReady ∧
      t.abort = s.abort ∧ t.uart = s.uart ∧ (t.txIrqEn = true → s.txIrqEn = true)) ∧
    ((∃ b, m = .envRx b) ∨ (∃ v, m = .envTxReady v) ∨ (∃ v, m = .envAbort v) →
      ∃ w r a, t = { s with wireIn := w, txReady := r, abort := a })

/-- R33: MAIN's position advances from a micro-step only to one that follows it in the sequences of R152, R157 and R162, in the
same operation, or to the operation's return (decision D6). -/
def Obligations.MicroStepsFollowTheirOrder : Prop :=
  ∀ (s t : State) (l : MicroStep), s.main.mstep = some l → mainStep s = .next t →
    t.main.mstep ∈ successors l ∧ (t.main = .idle ∨ t.main.op = s.main.op)

/-- The micro-steps of `write_byte` (R152, R153, decisions D6, D9, D10), each taken by itself, so with any handler before and
after it: what it reads, what it writes, where MAIN stands next, and nothing else. W4 asks for a head in range (R37 (a)). -/
def Obligations.WriteByteTakesItsMicroSteps : Prop :=
  ∀ (s : State) (b : Byte) (nh t : Nat) (t? : Option Nat),
    (s.main = .atW1 b →
      perform .main s = .next { s with main := .atW2 b (nextIndex s.params.txN s.tx.head) none }) ∧
    (s.main = .atW2 b nh t? → nh ≠ s.tx.tail → perform .main s = .next { s with main := .atW4 b nh s.tx.tail }) ∧
    (s.main = .atW2 b nh t? → nh = s.tx.tail → perform .main s = .next { s with main := .atW3 b nh s.tx.tail }) ∧
    (s.main = .atW3 b nh t → s.abort = false → perform .main s = .next { s with main := .atW2 b nh (some t) }) ∧
    (s.main = .atW3 b nh t → s.abort = true →
      perform .main s = .next { s with main := .idle, returns := s.returns ++ [.aborted] }) ∧
    (s.main = .atW4 b nh t → s.tx.head < s.params.txN →
      perform .main s =
        .next { s with tx := { s.tx with storage := s.tx.storage.write s.tx.head b }, main := .atW5 b nh t } ∧
      ∀ i, Memory.load .tx i (s.tx.storage.write s.tx.head b) = if i = s.tx.head then b else s.slot .tx i) ∧
    (s.main = .atW5 b nh t →
      perform .main s = .next { s with tx := { s.tx with head := nh }, main := .atW6 b nh t }) ∧
    (s.main = .atW6 b nh t →
      perform .main s = .next { s with txIrqEn := true, main := .idle, returns := s.returns ++ [.done] })

/-- The micro-steps of `read_byte` (R157, R113, decisions D6, D11, D29), each taken by itself, so with any handler before and
after it: what it reads, what it writes, where MAIN stands next, what it returns, and nothing else. The resume request of Rd5
is made exactly when the count MAIN holds is below the low watermark and the state is PauseAcknowledged. Rd2 asks for a tail in
range (R37 (a)). -/
def Obligations.ReadByteTakesItsMicroSteps : Prop :=
  ∀ (s : State) (h : Nat) (d : Byte) (h2 c : Nat),
    (s.main = .atRd1 → s.rx.head = s.rx.tail →
      perform .main s = .next { s with main := .idle, returns := s.returns ++ [.noData] }) ∧
    (s.main = .atRd1 → s.rx.head ≠ s.rx.tail → perform .main s = .next { s with main := .atRd2 s.rx.head }) ∧
    (s.main = .atRd2 h → s.rx.tail < s.params.rxN →
      perform .main s = .next { s with main := .atRd3 h (s.slot .rx s.rx.tail) }) ∧
    (s.main = .atRd3 h d → s.params.xonxoffEnable = true →
      perform .main s =
        .next { s with rx := { s.rx with tail := nextIndex s.params.rxN s.rx.tail }, main := .atRd4 h d }) ∧
    (s.main = .atRd3 h d → s.params.xonxoffEnable = false →
      perform .main s = .next { s with
        rx := { s.rx with tail := nextIndex s.params.rxN s.rx.tail }
        main := .idle, returns := s.returns ++ [.data d] }) ∧
    (s.main = .atRd4 h d →
      perform .main s =
        .next { s with main := .atRd5 h d s.rx.head (count s.params.rxN s.rx.head s.rx.tail) }) ∧
    (s.main = .atRd5 h d h2 c → c < s.params.lowWatermark → s.flowCtrl = .pauseAcknowledged →
      perform .main s = .next { s with flowCtrl := .resumeRequested, main := .atRd6 h d h2 c }) ∧
    (s.main = .atRd5 h d h2 c → ¬(c < s.params.lowWatermark ∧ s.flowCtrl = .pauseAcknowledged) →
      perform .main s = .next { s with main := .idle, returns := s.returns ++ [.data d] }) ∧
    (s.main = .atRd6 h d h2 c →
      perform .main s = .next { s with txIrqEn := true, main := .idle, returns := s.returns ++ [.data d] })

/-- The micro-steps of `reset_read_buffer` (R162, R122, decisions D6, D30), each taken by itself, so with any handler before
and after it: the discard is at the head MAIN holds, whatever has been pushed since. -/
def Obligations.ResetReadBufferTakesItsMicroSteps : Prop :=
  ∀ (s : State) (h : Nat),
    (s.main = .atRs1 → perform .main s = .next { s with main := .atRs2 s.rx.head }) ∧
    (s.main = .atRs2 h → s.params.xonxoffEnable = true →
      perform .main s = .next { s with rx := { s.rx with tail := h }, main := .atRs3 h }) ∧
    (s.main = .atRs2 h → s.params.xonxoffEnable = false →
      perform .main s = .next { s with rx := { s.rx with tail := h }, main := .idle }) ∧
    (s.main = .atRs3 h → perform .main s = .next { s with flowCtrl := .resumeAcknowledged, main := .idle })
end

