-- ==== Sys2Proof/Laws/State.lean ====
section
/-!
SUPPORT. One lemma per field per update of State, so that no later proof unfolds a record update.
-/

namespace Sys2Proof.Machine

/-! ## The two buffers -/

@[simp] theorem State.ring_rx (s : State) : s.ring .rx = s.rx := rfl
@[simp] theorem State.ring_tx (s : State) : s.ring .tx = s.tx := rfl
@[simp] theorem State.setRing_rx (s : State) (r : Ring) : (s.setRing .rx r).rx = r := rfl
@[simp] theorem State.setRing_rx_tx (s : State) (r : Ring) : (s.setRing .rx r).tx = s.tx := rfl
@[simp] theorem State.setRing_tx (s : State) (r : Ring) : (s.setRing .tx r).tx = r := rfl
@[simp] theorem State.setRing_tx_rx (s : State) (r : Ring) : (s.setRing .tx r).rx = s.rx := rfl
@[simp] theorem State.ring_setRing (s : State) (buf : Buffer) (r : Ring) : (s.setRing buf r).ring buf = r := by
  cases buf <;> rfl
theorem State.ring_setRing_ne (s : State) {buf other : Buffer} (r : Ring) (h : other ≠ buf) :
    (s.setRing buf r).ring other = s.ring other := by
  cases buf <;> cases other <;> first | rfl | exact absurd rfl h
@[simp] theorem State.setRing_setRing (s : State) (buf : Buffer) (r r' : Ring) :
    (s.setRing buf r).setRing buf r' = s.setRing buf r' := by
  cases buf <;> rfl
@[simp] theorem State.setRing_self (s : State) (buf : Buffer) : s.setRing buf (s.ring buf) = s := by
  cases buf <;> rfl
@[simp] theorem State.cap_rx (s : State) : s.cap .rx = s.params.rxN := rfl
@[simp] theorem State.cap_tx (s : State) : s.cap .tx = s.params.txN := rfl
@[simp] theorem State.cap_setRing (s : State) (buf other : Buffer) (r : Ring) :
    (s.setRing buf r).cap other = s.cap other := by
  cases buf <;> rfl
@[simp] theorem State.next_setRing (s : State) (buf other : Buffer) (r : Ring) (i : Nat) :
    (s.setRing buf r).next other i = s.next other i := by
  cases buf <;> rfl

@[simp] theorem State.setRing_params (s : State) (buf : Buffer) (r : Ring) : (s.setRing buf r).params = s.params := by
  cases buf <;> rfl
@[simp] theorem State.setRing_flowCtrl (s : State) (buf : Buffer) (r : Ring) : (s.setRing buf r).flowCtrl = s.flowCtrl := by
  cases buf <;> rfl
@[simp] theorem State.setRing_txIrqEn (s : State) (buf : Buffer) (r : Ring) : (s.setRing buf r).txIrqEn = s.txIrqEn := by
  cases buf <;> rfl
@[simp] theorem State.setRing_rtPending (s : State) (buf : Buffer) (r : Ring) : (s.setRing buf r).rtPending = s.rtPending := by
  cases buf <;> rfl
@[simp] theorem State.setRing_main (s : State) (buf : Buffer) (r : Ring) : (s.setRing buf r).main = s.main := by
  cases buf <;> rfl
@[simp] theorem State.setRing_wireIn (s : State) (buf : Buffer) (r : Ring) : (s.setRing buf r).wireIn = s.wireIn := by
  cases buf <;> rfl
@[simp] theorem State.setRing_wireOut (s : State) (buf : Buffer) (r : Ring) : (s.setRing buf r).wireOut = s.wireOut := by
  cases buf <;> rfl
@[simp] theorem State.setRing_resetCalls (s : State) (buf : Buffer) (r : Ring) : (s.setRing buf r).resetCalls = s.resetCalls := by
  cases buf <;> rfl
@[simp] theorem State.setRing_txReady (s : State) (buf : Buffer) (r : Ring) : (s.setRing buf r).txReady = s.txReady := by
  cases buf <;> rfl
@[simp] theorem State.setRing_abort (s : State) (buf : Buffer) (r : Ring) : (s.setRing buf r).abort = s.abort := by
  cases buf <;> rfl
@[simp] theorem State.setRing_uart (s : State) (buf : Buffer) (r : Ring) : (s.setRing buf r).uart = s.uart := by
  cases buf <;> rfl
@[simp] theorem State.setRing_returns (s : State) (buf : Buffer) (r : Ring) : (s.setRing buf r).returns = s.returns := by
  cases buf <;> rfl
@[simp] theorem State.setRing_script (s : State) (buf : Buffer) (r : Ring) : (s.setRing buf r).script = s.script := by
  cases buf <;> rfl
@[simp] theorem State.setRing_draws (s : State) (buf : Buffer) (r : Ring) : (s.setRing buf r).draws = s.draws := by
  cases buf <;> rfl

@[simp] theorem State.ring_setHead (s : State) (buf : Buffer) (i : Nat) :
    (s.setHead buf i).ring buf = { s.ring buf with head := i } := by
  cases buf <;> rfl
@[simp] theorem State.setHead_rx (s : State) (i : Nat) : (s.setHead .rx i).rx = { s.rx with head := i } := rfl
@[simp] theorem State.setHead_rx_tx (s : State) (i : Nat) : (s.setHead .rx i).tx = s.tx := rfl
@[simp] theorem State.setHead_tx (s : State) (i : Nat) : (s.setHead .tx i).tx = { s.tx with head := i } := rfl
@[simp] theorem State.setHead_tx_rx (s : State) (i : Nat) : (s.setHead .tx i).rx = s.rx := rfl
@[simp] theorem State.cap_setHead (s : State) (buf other : Buffer) (i : Nat) : (s.setHead buf i).cap other = s.cap other := by
  cases buf <;> rfl
@[simp] theorem State.setHead_params (s : State) (buf : Buffer) (i : Nat) : (s.setHead buf i).params = s.params := by
  cases buf <;> rfl
@[simp] theorem State.setHead_flowCtrl (s : State) (buf : Buffer) (i : Nat) : (s.setHead buf i).flowCtrl = s.flowCtrl := by
  cases buf <;> rfl
@[simp] theorem State.setHead_txIrqEn (s : State) (buf : Buffer) (i : Nat) : (s.setHead buf i).txIrqEn = s.txIrqEn := by
  cases buf <;> rfl
@[simp] theorem State.setHead_rtPending (s : State) (buf : Buffer) (i : Nat) : (s.setHead buf i).rtPending = s.rtPending := by
  cases buf <;> rfl
@[simp] theorem State.setHead_main (s : State) (buf : Buffer) (i : Nat) : (s.setHead buf i).main = s.main := by
  cases buf <;> rfl
@[simp] theorem State.setHead_wireIn (s : State) (buf : Buffer) (i : Nat) : (s.setHead buf i).wireIn = s.wireIn := by
  cases buf <;> rfl
@[simp] theorem State.setHead_wireOut (s : State) (buf : Buffer) (i : Nat) : (s.setHead buf i).wireOut = s.wireOut := by
  cases buf <;> rfl
@[simp] theorem State.setHead_resetCalls (s : State) (buf : Buffer) (i : Nat) : (s.setHead buf i).resetCalls = s.resetCalls := by
  cases buf <;> rfl
@[simp] theorem State.setHead_txReady (s : State) (buf : Buffer) (i : Nat) : (s.setHead buf i).txReady = s.txReady := by
  cases buf <;> rfl
@[simp] theorem State.setHead_abort (s : State) (buf : Buffer) (i : Nat) : (s.setHead buf i).abort = s.abort := by
  cases buf <;> rfl
@[simp] theorem State.setHead_uart (s : State) (buf : Buffer) (i : Nat) : (s.setHead buf i).uart = s.uart := by
  cases buf <;> rfl
@[simp] theorem State.setHead_returns (s : State) (buf : Buffer) (i : Nat) : (s.setHead buf i).returns = s.returns := by
  cases buf <;> rfl
@[simp] theorem State.setHead_script (s : State) (buf : Buffer) (i : Nat) : (s.setHead buf i).script = s.script := by
  cases buf <;> rfl
@[simp] theorem State.setHead_draws (s : State) (buf : Buffer) (i : Nat) : (s.setHead buf i).draws = s.draws := by
  cases buf <;> rfl

@[simp] theorem State.ring_setTail (s : State) (buf : Buffer) (i : Nat) :
    (s.setTail buf i).ring buf = { s.ring buf with tail := i } := by
  cases buf <;> rfl
@[simp] theorem State.setTail_rx (s : State) (i : Nat) : (s.setTail .rx i).rx = { s.rx with tail := i } := rfl
@[simp] theorem State.setTail_rx_tx (s : State) (i : Nat) : (s.setTail .rx i).tx = s.tx := rfl
@[simp] theorem State.setTail_tx (s : State) (i : Nat) : (s.setTail .tx i).tx = { s.tx with tail := i } := rfl
@[simp] theorem State.setTail_tx_rx (s : State) (i : Nat) : (s.setTail .tx i).rx = s.rx := rfl
@[simp] theorem State.cap_setTail (s : State) (buf other : Buffer) (i : Nat) : (s.setTail buf i).cap other = s.cap other := by
  cases buf <;> rfl
@[simp] theorem State.setTail_params (s : State) (buf : Buffer) (i : Nat) : (s.setTail buf i).params = s.params := by
  cases buf <;> rfl
@[simp] theorem State.setTail_flowCtrl (s : State) (buf : Buffer) (i : Nat) : (s.setTail buf i).flowCtrl = s.flowCtrl := by
  cases buf <;> rfl
@[simp] theorem State.setTail_txIrqEn (s : State) (buf : Buffer) (i : Nat) : (s.setTail buf i).txIrqEn = s.txIrqEn := by
  cases buf <;> rfl
@[simp] theorem State.setTail_rtPending (s : State) (buf : Buffer) (i : Nat) : (s.setTail buf i).rtPending = s.rtPending := by
  cases buf <;> rfl
@[simp] theorem State.setTail_main (s : State) (buf : Buffer) (i : Nat) : (s.setTail buf i).main = s.main := by
  cases buf <;> rfl
@[simp] theorem State.setTail_wireIn (s : State) (buf : Buffer) (i : Nat) : (s.setTail buf i).wireIn = s.wireIn := by
  cases buf <;> rfl
@[simp] theorem State.setTail_wireOut (s : State) (buf : Buffer) (i : Nat) : (s.setTail buf i).wireOut = s.wireOut := by
  cases buf <;> rfl
@[simp] theorem State.setTail_resetCalls (s : State) (buf : Buffer) (i : Nat) : (s.setTail buf i).resetCalls = s.resetCalls := by
  cases buf <;> rfl
@[simp] theorem State.setTail_txReady (s : State) (buf : Buffer) (i : Nat) : (s.setTail buf i).txReady = s.txReady := by
  cases buf <;> rfl
@[simp] theorem State.setTail_abort (s : State) (buf : Buffer) (i : Nat) : (s.setTail buf i).abort = s.abort := by
  cases buf <;> rfl
@[simp] theorem State.setTail_uart (s : State) (buf : Buffer) (i : Nat) : (s.setTail buf i).uart = s.uart := by
  cases buf <;> rfl
@[simp] theorem State.setTail_returns (s : State) (buf : Buffer) (i : Nat) : (s.setTail buf i).returns = s.returns := by
  cases buf <;> rfl
@[simp] theorem State.setTail_script (s : State) (buf : Buffer) (i : Nat) : (s.setTail buf i).script = s.script := by
  cases buf <;> rfl
@[simp] theorem State.setTail_draws (s : State) (buf : Buffer) (i : Nat) : (s.setTail buf i).draws = s.draws := by
  cases buf <;> rfl

/-! ## record -/

@[simp] theorem State.record_rx (s : State) (r : Result) : (s.record r).rx = s.rx := rfl
@[simp] theorem State.record_tx (s : State) (r : Result) : (s.record r).tx = s.tx := rfl
@[simp] theorem State.record_params (s : State) (r : Result) : (s.record r).params = s.params := rfl
@[simp] theorem State.record_flowCtrl (s : State) (r : Result) : (s.record r).flowCtrl = s.flowCtrl := rfl
@[simp] theorem State.record_txIrqEn (s : State) (r : Result) : (s.record r).txIrqEn = s.txIrqEn := rfl
@[simp] theorem State.record_rtPending (s : State) (r : Result) : (s.record r).rtPending = s.rtPending := rfl
@[simp] theorem State.record_main (s : State) (r : Result) : (s.record r).main = s.main := rfl
@[simp] theorem State.record_wireIn (s : State) (r : Result) : (s.record r).wireIn = s.wireIn := rfl
@[simp] theorem State.record_wireOut (s : State) (r : Result) : (s.record r).wireOut = s.wireOut := rfl
@[simp] theorem State.record_resetCalls (s : State) (r : Result) : (s.record r).resetCalls = s.resetCalls := rfl
@[simp] theorem State.record_txReady (s : State) (r : Result) : (s.record r).txReady = s.txReady := rfl
@[simp] theorem State.record_abort (s : State) (r : Result) : (s.record r).abort = s.abort := rfl
@[simp] theorem State.record_uart (s : State) (r : Result) : (s.record r).uart = s.uart := rfl
@[simp] theorem State.record_returns (s : State) (r : Result) : (s.record r).returns = s.returns ++ [r] := rfl
@[simp] theorem State.record_script (s : State) (r : Result) : (s.record r).script = s.script := rfl
@[simp] theorem State.record_draws (s : State) (r : Result) : (s.record r).draws = s.draws := rfl
@[simp] theorem State.record_ring (s : State) (r : Result) (buf : Buffer) : (s.record r).ring buf = s.ring buf := by
  cases buf <;> rfl
@[simp] theorem State.record_cap (s : State) (r : Result) (buf : Buffer) : (s.record r).cap buf = s.cap buf := rfl

/-! ## finish -/

@[simp] theorem State.finish_rx (s : State) : (s.finish).rx = s.rx := rfl
@[simp] theorem State.finish_tx (s : State) : (s.finish).tx = s.tx := rfl
@[simp] theorem State.finish_params (s : State) : (s.finish).params = s.params := rfl
@[simp] theorem State.finish_flowCtrl (s : State) : (s.finish).flowCtrl = s.flowCtrl := rfl
@[simp] theorem State.finish_txIrqEn (s : State) : (s.finish).txIrqEn = s.txIrqEn := rfl
@[simp] theorem State.finish_rtPending (s : State) : (s.finish).rtPending = s.rtPending := rfl
@[simp] theorem State.finish_main (s : State) : (s.finish).main = .idle := rfl
@[simp] theorem State.finish_wireIn (s : State) : (s.finish).wireIn = s.wireIn := rfl
@[simp] theorem State.finish_wireOut (s : State) : (s.finish).wireOut = s.wireOut := rfl
@[simp] theorem State.finish_resetCalls (s : State) : (s.finish).resetCalls = s.resetCalls := rfl
@[simp] theorem State.finish_txReady (s : State) : (s.finish).txReady = s.txReady := rfl
@[simp] theorem State.finish_abort (s : State) : (s.finish).abort = s.abort := rfl
@[simp] theorem State.finish_uart (s : State) : (s.finish).uart = s.uart := rfl
@[simp] theorem State.finish_returns (s : State) : (s.finish).returns = s.returns := rfl
@[simp] theorem State.finish_script (s : State) : (s.finish).script = s.script := rfl
@[simp] theorem State.finish_draws (s : State) : (s.finish).draws = s.draws := rfl
@[simp] theorem State.finish_ring (s : State) (buf : Buffer) : (s.finish).ring buf = s.ring buf := by
  cases buf <;> rfl
@[simp] theorem State.finish_cap (s : State) (buf : Buffer) : (s.finish).cap buf = s.cap buf := rfl

/-! ## finishWith -/

@[simp] theorem State.finishWith_rx (s : State) (r : Result) : (s.finishWith r).rx = s.rx := rfl
@[simp] theorem State.finishWith_tx (s : State) (r : Result) : (s.finishWith r).tx = s.tx := rfl
@[simp] theorem State.finishWith_params (s : State) (r : Result) : (s.finishWith r).params = s.params := rfl
@[simp] theorem State.finishWith_flowCtrl (s : State) (r : Result) : (s.finishWith r).flowCtrl = s.flowCtrl := rfl
@[simp] theorem State.finishWith_txIrqEn (s : State) (r : Result) : (s.finishWith r).txIrqEn = s.txIrqEn := rfl
@[simp] theorem State.finishWith_rtPending (s : State) (r : Result) : (s.finishWith r).rtPending = s.rtPending := rfl
@[simp] theorem State.finishWith_main (s : State) (r : Result) : (s.finishWith r).main = .idle := rfl
@[simp] theorem State.finishWith_wireIn (s : State) (r : Result) : (s.finishWith r).wireIn = s.wireIn := rfl
@[simp] theorem State.finishWith_wireOut (s : State) (r : Result) : (s.finishWith r).wireOut = s.wireOut := rfl
@[simp] theorem State.finishWith_resetCalls (s : State) (r : Result) : (s.finishWith r).resetCalls = s.resetCalls := rfl
@[simp] theorem State.finishWith_txReady (s : State) (r : Result) : (s.finishWith r).txReady = s.txReady := rfl
@[simp] theorem State.finishWith_abort (s : State) (r : Result) : (s.finishWith r).abort = s.abort := rfl
@[simp] theorem State.finishWith_uart (s : State) (r : Result) : (s.finishWith r).uart = s.uart := rfl
@[simp] theorem State.finishWith_returns (s : State) (r : Result) : (s.finishWith r).returns = s.returns ++ [r] := rfl
@[simp] theorem State.finishWith_script (s : State) (r : Result) : (s.finishWith r).script = s.script := rfl
@[simp] theorem State.finishWith_draws (s : State) (r : Result) : (s.finishWith r).draws = s.draws := rfl
@[simp] theorem State.finishWith_ring (s : State) (r : Result) (buf : Buffer) : (s.finishWith r).ring buf = s.ring buf := by
  cases buf <;> rfl
@[simp] theorem State.finishWith_cap (s : State) (r : Result) (buf : Buffer) : (s.finishWith r).cap buf = s.cap buf := rfl

/-! ## at -/

@[simp] theorem State.at_rx (s : State) (m : MainState) : (s.at m).rx = s.rx := rfl
@[simp] theorem State.at_tx (s : State) (m : MainState) : (s.at m).tx = s.tx := rfl
@[simp] theorem State.at_params (s : State) (m : MainState) : (s.at m).params = s.params := rfl
@[simp] theorem State.at_flowCtrl (s : State) (m : MainState) : (s.at m).flowCtrl = s.flowCtrl := rfl
@[simp] theorem State.at_txIrqEn (s : State) (m : MainState) : (s.at m).txIrqEn = s.txIrqEn := rfl
@[simp] theorem State.at_rtPending (s : State) (m : MainState) : (s.at m).rtPending = s.rtPending := rfl
@[simp] theorem State.at_main (s : State) (m : MainState) : (s.at m).main = m := rfl
@[simp] theorem State.at_wireIn (s : State) (m : MainState) : (s.at m).wireIn = s.wireIn := rfl
@[simp] theorem State.at_wireOut (s : State) (m : MainState) : (s.at m).wireOut = s.wireOut := rfl
@[simp] theorem State.at_resetCalls (s : State) (m : MainState) : (s.at m).resetCalls = s.resetCalls := rfl
@[simp] theorem State.at_txReady (s : State) (m : MainState) : (s.at m).txReady = s.txReady := rfl
@[simp] theorem State.at_abort (s : State) (m : MainState) : (s.at m).abort = s.abort := rfl
@[simp] theorem State.at_uart (s : State) (m : MainState) : (s.at m).uart = s.uart := rfl
@[simp] theorem State.at_returns (s : State) (m : MainState) : (s.at m).returns = s.returns := rfl
@[simp] theorem State.at_script (s : State) (m : MainState) : (s.at m).script = s.script := rfl
@[simp] theorem State.at_draws (s : State) (m : MainState) : (s.at m).draws = s.draws := rfl
@[simp] theorem State.at_ring (s : State) (m : MainState) (buf : Buffer) : (s.at m).ring buf = s.ring buf := by
  cases buf <;> rfl
@[simp] theorem State.at_cap (s : State) (m : MainState) (buf : Buffer) : (s.at m).cap buf = s.cap buf := rfl

/-! ## enableTx -/

@[simp] theorem enableTx_rx (s : State) : (enableTx s).rx = s.rx := rfl
@[simp] theorem enableTx_tx (s : State) : (enableTx s).tx = s.tx := rfl
@[simp] theorem enableTx_params (s : State) : (enableTx s).params = s.params := rfl
@[simp] theorem enableTx_flowCtrl (s : State) : (enableTx s).flowCtrl = s.flowCtrl := rfl
@[simp] theorem enableTx_txIrqEn (s : State) : (enableTx s).txIrqEn = true := rfl
@[simp] theorem enableTx_rtPending (s : State) : (enableTx s).rtPending = s.rtPending := rfl
@[simp] theorem enableTx_main (s : State) : (enableTx s).main = s.main := rfl
@[simp] theorem enableTx_wireIn (s : State) : (enableTx s).wireIn = s.wireIn := rfl
@[simp] theorem enableTx_wireOut (s : State) : (enableTx s).wireOut = s.wireOut := rfl
@[simp] theorem enableTx_resetCalls (s : State) : (enableTx s).resetCalls = s.resetCalls := rfl
@[simp] theorem enableTx_txReady (s : State) : (enableTx s).txReady = s.txReady := rfl
@[simp] theorem enableTx_abort (s : State) : (enableTx s).abort = s.abort := rfl
@[simp] theorem enableTx_uart (s : State) : (enableTx s).uart = s.uart := rfl
@[simp] theorem enableTx_returns (s : State) : (enableTx s).returns = s.returns := rfl
@[simp] theorem enableTx_script (s : State) : (enableTx s).script = s.script := rfl
@[simp] theorem enableTx_draws (s : State) : (enableTx s).draws = s.draws := rfl
@[simp] theorem enableTx_ring (s : State) (buf : Buffer) : (enableTx s).ring buf = s.ring buf := by
  cases buf <;> rfl
@[simp] theorem enableTx_cap (s : State) (buf : Buffer) : (enableTx s).cap buf = s.cap buf := rfl

/-! ## disableTx -/

@[simp] theorem disableTx_rx (s : State) : (disableTx s).rx = s.rx := rfl
@[simp] theorem disableTx_tx (s : State) : (disableTx s).tx = s.tx := rfl
@[simp] theorem disableTx_params (s : State) : (disableTx s).params = s.params := rfl
@[simp] theorem disableTx_flowCtrl (s : State) : (disableTx s).flowCtrl = s.flowCtrl := rfl
@[simp] theorem disableTx_txIrqEn (s : State) : (disableTx s).txIrqEn = false := rfl
@[simp] theorem disableTx_rtPending (s : State) : (disableTx s).rtPending = s.rtPending := rfl
@[simp] theorem disableTx_main (s : State) : (disableTx s).main = s.main := rfl
@[simp] theorem disableTx_wireIn (s : State) : (disableTx s).wireIn = s.wireIn := rfl
@[simp] theorem disableTx_wireOut (s : State) : (disableTx s).wireOut = s.wireOut := rfl
@[simp] theorem disableTx_resetCalls (s : State) : (disableTx s).resetCalls = s.resetCalls := rfl
@[simp] theorem disableTx_txReady (s : State) : (disableTx s).txReady = s.txReady := rfl
@[simp] theorem disableTx_abort (s : State) : (disableTx s).abort = s.abort := rfl
@[simp] theorem disableTx_uart (s : State) : (disableTx s).uart = s.uart := rfl
@[simp] theorem disableTx_returns (s : State) : (disableTx s).returns = s.returns := rfl
@[simp] theorem disableTx_script (s : State) : (disableTx s).script = s.script := rfl
@[simp] theorem disableTx_draws (s : State) : (disableTx s).draws = s.draws := rfl
@[simp] theorem disableTx_ring (s : State) (buf : Buffer) : (disableTx s).ring buf = s.ring buf := by
  cases buf <;> rfl
@[simp] theorem disableTx_cap (s : State) (buf : Buffer) : (disableTx s).cap buf = s.cap buf := rfl

/-! ## hardwareSend -/

@[simp] theorem hardwareSend_rx (s : State) (v : Byte) : (hardwareSend v s).rx = s.rx := rfl
@[simp] theorem hardwareSend_tx (s : State) (v : Byte) : (hardwareSend v s).tx = s.tx := rfl
@[simp] theorem hardwareSend_params (s : State) (v : Byte) : (hardwareSend v s).params = s.params := rfl
@[simp] theorem hardwareSend_flowCtrl (s : State) (v : Byte) : (hardwareSend v s).flowCtrl = s.flowCtrl := rfl
@[simp] theorem hardwareSend_txIrqEn (s : State) (v : Byte) : (hardwareSend v s).txIrqEn = s.txIrqEn := rfl
@[simp] theorem hardwareSend_rtPending (s : State) (v : Byte) : (hardwareSend v s).rtPending = s.rtPending := rfl
@[simp] theorem hardwareSend_main (s : State) (v : Byte) : (hardwareSend v s).main = s.main := rfl
@[simp] theorem hardwareSend_wireIn (s : State) (v : Byte) : (hardwareSend v s).wireIn = s.wireIn := rfl
@[simp] theorem hardwareSend_wireOut (s : State) (v : Byte) : (hardwareSend v s).wireOut = s.wireOut ++ [v] := rfl
@[simp] theorem hardwareSend_resetCalls (s : State) (v : Byte) : (hardwareSend v s).resetCalls = s.resetCalls := rfl
@[simp] theorem hardwareSend_txReady (s : State) (v : Byte) : (hardwareSend v s).txReady = s.txReady := rfl
@[simp] theorem hardwareSend_abort (s : State) (v : Byte) : (hardwareSend v s).abort = s.abort := rfl
@[simp] theorem hardwareSend_uart (s : State) (v : Byte) : (hardwareSend v s).uart = s.uart := rfl
@[simp] theorem hardwareSend_returns (s : State) (v : Byte) : (hardwareSend v s).returns = s.returns := rfl
@[simp] theorem hardwareSend_script (s : State) (v : Byte) : (hardwareSend v s).script = s.script := rfl
@[simp] theorem hardwareSend_draws (s : State) (v : Byte) : (hardwareSend v s).draws = s.draws := rfl
@[simp] theorem hardwareSend_ring (s : State) (v : Byte) (buf : Buffer) : (hardwareSend v s).ring buf = s.ring buf := by
  cases buf <;> rfl
@[simp] theorem hardwareSend_cap (s : State) (v : Byte) (buf : Buffer) : (hardwareSend v s).cap buf = s.cap buf := rfl

/-! ## configureUart -/

@[simp] theorem configureUart_rx (s : State) (baud : Baud) : (configureUart baud s).rx = s.rx := rfl
@[simp] theorem configureUart_tx (s : State) (baud : Baud) : (configureUart baud s).tx = s.tx := rfl
@[simp] theorem configureUart_params (s : State) (baud : Baud) : (configureUart baud s).params = s.params := rfl
@[simp] theorem configureUart_flowCtrl (s : State) (baud : Baud) : (configureUart baud s).flowCtrl = s.flowCtrl := rfl
@[simp] theorem configureUart_txIrqEn (s : State) (baud : Baud) : (configureUart baud s).txIrqEn = s.txIrqEn := rfl
@[simp] theorem configureUart_rtPending (s : State) (baud : Baud) : (configureUart baud s).rtPending = s.rtPending := rfl
@[simp] theorem configureUart_main (s : State) (baud : Baud) : (configureUart baud s).main = s.main := rfl
@[simp] theorem configureUart_wireIn (s : State) (baud : Baud) : (configureUart baud s).wireIn = s.wireIn := rfl
@[simp] theorem configureUart_wireOut (s : State) (baud : Baud) : (configureUart baud s).wireOut = s.wireOut := rfl
@[simp] theorem configureUart_resetCalls (s : State) (baud : Baud) : (configureUart baud s).resetCalls = s.resetCalls := rfl
@[simp] theorem configureUart_txReady (s : State) (baud : Baud) : (configureUart baud s).txReady = s.txReady := rfl
@[simp] theorem configureUart_abort (s : State) (baud : Baud) : (configureUart baud s).abort = s.abort := rfl
@[simp] theorem configureUart_uart (s : State) (baud : Baud) : (configureUart baud s).uart = some baud := rfl
@[simp] theorem configureUart_returns (s : State) (baud : Baud) : (configureUart baud s).returns = s.returns := rfl
@[simp] theorem configureUart_script (s : State) (baud : Baud) : (configureUart baud s).script = s.script := rfl
@[simp] theorem configureUart_draws (s : State) (baud : Baud) : (configureUart baud s).draws = s.draws := rfl
@[simp] theorem configureUart_ring (s : State) (baud : Baud) (buf : Buffer) : (configureUart baud s).ring buf = s.ring buf := by
  cases buf <;> rfl
@[simp] theorem configureUart_cap (s : State) (baud : Baud) (buf : Buffer) : (configureUart baud s).cap buf = s.cap buf := rfl

/-! ## emergencyReset -/

@[simp] theorem emergencyReset_rx (s : State) : (emergencyReset s).rx = s.rx := rfl
@[simp] theorem emergencyReset_tx (s : State) : (emergencyReset s).tx = s.tx := rfl
@[simp] theorem emergencyReset_params (s : State) : (emergencyReset s).params = s.params := rfl
@[simp] theorem emergencyReset_flowCtrl (s : State) : (emergencyReset s).flowCtrl = s.flowCtrl := rfl
@[simp] theorem emergencyReset_txIrqEn (s : State) : (emergencyReset s).txIrqEn = s.txIrqEn := rfl
@[simp] theorem emergencyReset_rtPending (s : State) : (emergencyReset s).rtPending = s.rtPending := rfl
@[simp] theorem emergencyReset_main (s : State) : (emergencyReset s).main = s.main := rfl
@[simp] theorem emergencyReset_wireIn (s : State) : (emergencyReset s).wireIn = s.wireIn := rfl
@[simp] theorem emergencyReset_wireOut (s : State) : (emergencyReset s).wireOut = s.wireOut := rfl
@[simp] theorem emergencyReset_resetCalls (s : State) : (emergencyReset s).resetCalls = s.resetCalls + 1 := rfl
@[simp] theorem emergencyReset_txReady (s : State) : (emergencyReset s).txReady = s.txReady := rfl
@[simp] theorem emergencyReset_abort (s : State) : (emergencyReset s).abort = s.abort := rfl
@[simp] theorem emergencyReset_uart (s : State) : (emergencyReset s).uart = s.uart := rfl
@[simp] theorem emergencyReset_returns (s : State) : (emergencyReset s).returns = s.returns := rfl
@[simp] theorem emergencyReset_script (s : State) : (emergencyReset s).script = s.script := rfl
@[simp] theorem emergencyReset_draws (s : State) : (emergencyReset s).draws = s.draws := rfl
@[simp] theorem emergencyReset_ring (s : State) (buf : Buffer) : (emergencyReset s).ring buf = s.ring buf := by
  cases buf <;> rfl
@[simp] theorem emergencyReset_cap (s : State) (buf : Buffer) : (emergencyReset s).cap buf = s.cap buf := rfl

/-! ## setStatusReport -/

@[simp] theorem setStatusReport_rx (s : State) : (setStatusReport s).rx = s.rx := rfl
@[simp] theorem setStatusReport_tx (s : State) : (setStatusReport s).tx = s.tx := rfl
@[simp] theorem setStatusReport_params (s : State) : (setStatusReport s).params = s.params := rfl
@[simp] theorem setStatusReport_flowCtrl (s : State) : (setStatusReport s).flowCtrl = s.flowCtrl := rfl
@[simp] theorem setStatusReport_txIrqEn (s : State) : (setStatusReport s).txIrqEn = s.txIrqEn := rfl
@[simp] theorem setStatusReport_rtPending (s : State) : (setStatusReport s).rtPending = { s.rtPending with statusReport := true } := rfl
@[simp] theorem setStatusReport_main (s : State) : (setStatusReport s).main = s.main := rfl
@[simp] theorem setStatusReport_wireIn (s : State) : (setStatusReport s).wireIn = s.wireIn := rfl
@[simp] theorem setStatusReport_wireOut (s : State) : (setStatusReport s).wireOut = s.wireOut := rfl
@[simp] theorem setStatusReport_resetCalls (s : State) : (setStatusReport s).resetCalls = s.resetCalls := rfl
@[simp] theorem setStatusReport_txReady (s : State) : (setStatusReport s).txReady = s.txReady := rfl
@[simp] theorem setStatusReport_abort (s : State) : (setStatusReport s).abort = s.abort := rfl
@[simp] theorem setStatusReport_uart (s : State) : (setStatusReport s).uart = s.uart := rfl
@[simp] theorem setStatusReport_returns (s : State) : (setStatusReport s).returns = s.returns := rfl
@[simp] theorem setStatusReport_script (s : State) : (setStatusReport s).script = s.script := rfl
@[simp] theorem setStatusReport_draws (s : State) : (setStatusReport s).draws = s.draws := rfl
@[simp] theorem setStatusReport_ring (s : State) (buf : Buffer) : (setStatusReport s).ring buf = s.ring buf := by
  cases buf <;> rfl
@[simp] theorem setStatusReport_cap (s : State) (buf : Buffer) : (setStatusReport s).cap buf = s.cap buf := rfl

/-! ## setCycleStart -/

@[simp] theorem setCycleStart_rx (s : State) : (setCycleStart s).rx = s.rx := rfl
@[simp] theorem setCycleStart_tx (s : State) : (setCycleStart s).tx = s.tx := rfl
@[simp] theorem setCycleStart_params (s : State) : (setCycleStart s).params = s.params := rfl
@[simp] theorem setCycleStart_flowCtrl (s : State) : (setCycleStart s).flowCtrl = s.flowCtrl := rfl
@[simp] theorem setCycleStart_txIrqEn (s : State) : (setCycleStart s).txIrqEn = s.txIrqEn := rfl
@[simp] theorem setCycleStart_rtPending (s : State) : (setCycleStart s).rtPending = { s.rtPending with cycleStart := true } := rfl
@[simp] theorem setCycleStart_main (s : State) : (setCycleStart s).main = s.main := rfl
@[simp] theorem setCycleStart_wireIn (s : State) : (setCycleStart s).wireIn = s.wireIn := rfl
@[simp] theorem setCycleStart_wireOut (s : State) : (setCycleStart s).wireOut = s.wireOut := rfl
@[simp] theorem setCycleStart_resetCalls (s : State) : (setCycleStart s).resetCalls = s.resetCalls := rfl
@[simp] theorem setCycleStart_txReady (s : State) : (setCycleStart s).txReady = s.txReady := rfl
@[simp] theorem setCycleStart_abort (s : State) : (setCycleStart s).abort = s.abort := rfl
@[simp] theorem setCycleStart_uart (s : State) : (setCycleStart s).uart = s.uart := rfl
@[simp] theorem setCycleStart_returns (s : State) : (setCycleStart s).returns = s.returns := rfl
@[simp] theorem setCycleStart_script (s : State) : (setCycleStart s).script = s.script := rfl
@[simp] theorem setCycleStart_draws (s : State) : (setCycleStart s).draws = s.draws := rfl
@[simp] theorem setCycleStart_ring (s : State) (buf : Buffer) : (setCycleStart s).ring buf = s.ring buf := by
  cases buf <;> rfl
@[simp] theorem setCycleStart_cap (s : State) (buf : Buffer) : (setCycleStart s).cap buf = s.cap buf := rfl

/-! ## setFeedHold -/

@[simp] theorem setFeedHold_rx (s : State) : (setFeedHold s).rx = s.rx := rfl
@[simp] theorem setFeedHold_tx (s : State) : (setFeedHold s).tx = s.tx := rfl
@[simp] theorem setFeedHold_params (s : State) : (setFeedHold s).params = s.params := rfl
@[simp] theorem setFeedHold_flowCtrl (s : State) : (setFeedHold s).flowCtrl = s.flowCtrl := rfl
@[simp] theorem setFeedHold_txIrqEn (s : State) : (setFeedHold s).txIrqEn = s.txIrqEn := rfl
@[simp] theorem setFeedHold_rtPending (s : State) : (setFeedHold s).rtPending = { s.rtPending with feedHold := true } := rfl
@[simp] theorem setFeedHold_main (s : State) : (setFeedHold s).main = s.main := rfl
@[simp] theorem setFeedHold_wireIn (s : State) : (setFeedHold s).wireIn = s.wireIn := rfl
@[simp] theorem setFeedHold_wireOut (s : State) : (setFeedHold s).wireOut = s.wireOut := rfl
@[simp] theorem setFeedHold_resetCalls (s : State) : (setFeedHold s).resetCalls = s.resetCalls := rfl
@[simp] theorem setFeedHold_txReady (s : State) : (setFeedHold s).txReady = s.txReady := rfl
@[simp] theorem setFeedHold_abort (s : State) : (setFeedHold s).abort = s.abort := rfl
@[simp] theorem setFeedHold_uart (s : State) : (setFeedHold s).uart = s.uart := rfl
@[simp] theorem setFeedHold_returns (s : State) : (setFeedHold s).returns = s.returns := rfl
@[simp] theorem setFeedHold_script (s : State) : (setFeedHold s).script = s.script := rfl
@[simp] theorem setFeedHold_draws (s : State) : (setFeedHold s).draws = s.draws := rfl
@[simp] theorem setFeedHold_ring (s : State) (buf : Buffer) : (setFeedHold s).ring buf = s.ring buf := by
  cases buf <;> rfl
@[simp] theorem setFeedHold_cap (s : State) (buf : Buffer) : (setFeedHold s).cap buf = s.cap buf := rfl

/-! ## setSafetyDoor -/

@[simp] theorem setSafetyDoor_rx (s : State) : (setSafetyDoor s).rx = s.rx := rfl
@[simp] theorem setSafetyDoor_tx (s : State) : (setSafetyDoor s).tx = s.tx := rfl
@[simp] theorem setSafetyDoor_params (s : State) : (setSafetyDoor s).params = s.params := rfl
@[simp] theorem setSafetyDoor_flowCtrl (s : State) : (setSafetyDoor s).flowCtrl = s.flowCtrl := rfl
@[simp] theorem setSafetyDoor_txIrqEn (s : State) : (setSafetyDoor s).txIrqEn = s.txIrqEn := rfl
@[simp] theorem setSafetyDoor_rtPending (s : State) : (setSafetyDoor s).rtPending = { s.rtPending with safetyDoor := true } := rfl
@[simp] theorem setSafetyDoor_main (s : State) : (setSafetyDoor s).main = s.main := rfl
@[simp] theorem setSafetyDoor_wireIn (s : State) : (setSafetyDoor s).wireIn = s.wireIn := rfl
@[simp] theorem setSafetyDoor_wireOut (s : State) : (setSafetyDoor s).wireOut = s.wireOut := rfl
@[simp] theorem setSafetyDoor_resetCalls (s : State) : (setSafetyDoor s).resetCalls = s.resetCalls := rfl
@[simp] theorem setSafetyDoor_txReady (s : State) : (setSafetyDoor s).txReady = s.txReady := rfl
@[simp] theorem setSafetyDoor_abort (s : State) : (setSafetyDoor s).abort = s.abort := rfl
@[simp] theorem setSafetyDoor_uart (s : State) : (setSafetyDoor s).uart = s.uart := rfl
@[simp] theorem setSafetyDoor_returns (s : State) : (setSafetyDoor s).returns = s.returns := rfl
@[simp] theorem setSafetyDoor_script (s : State) : (setSafetyDoor s).script = s.script := rfl
@[simp] theorem setSafetyDoor_draws (s : State) : (setSafetyDoor s).draws = s.draws := rfl
@[simp] theorem setSafetyDoor_ring (s : State) (buf : Buffer) : (setSafetyDoor s).ring buf = s.ring buf := by
  cases buf <;> rfl
@[simp] theorem setSafetyDoor_cap (s : State) (buf : Buffer) : (setSafetyDoor s).cap buf = s.cap buf := rfl

/-! ## rtCleared -/

@[simp] theorem rtCleared_rx (s : State) (m : RtFlags) : (rtCleared m s).rx = s.rx := rfl
@[simp] theorem rtCleared_tx (s : State) (m : RtFlags) : (rtCleared m s).tx = s.tx := rfl
@[simp] theorem rtCleared_params (s : State) (m : RtFlags) : (rtCleared m s).params = s.params := rfl
@[simp] theorem rtCleared_flowCtrl (s : State) (m : RtFlags) : (rtCleared m s).flowCtrl = s.flowCtrl := rfl
@[simp] theorem rtCleared_txIrqEn (s : State) (m : RtFlags) : (rtCleared m s).txIrqEn = s.txIrqEn := rfl
@[simp] theorem rtCleared_rtPending (s : State) (m : RtFlags) : (rtCleared m s).rtPending = flagsDiff s.rtPending m := rfl
@[simp] theorem rtCleared_main (s : State) (m : RtFlags) : (rtCleared m s).main = s.main := rfl
@[simp] theorem rtCleared_wireIn (s : State) (m : RtFlags) : (rtCleared m s).wireIn = s.wireIn := rfl
@[simp] theorem rtCleared_wireOut (s : State) (m : RtFlags) : (rtCleared m s).wireOut = s.wireOut := rfl
@[simp] theorem rtCleared_resetCalls (s : State) (m : RtFlags) : (rtCleared m s).resetCalls = s.resetCalls := rfl
@[simp] theorem rtCleared_txReady (s : State) (m : RtFlags) : (rtCleared m s).txReady = s.txReady := rfl
@[simp] theorem rtCleared_abort (s : State) (m : RtFlags) : (rtCleared m s).abort = s.abort := rfl
@[simp] theorem rtCleared_uart (s : State) (m : RtFlags) : (rtCleared m s).uart = s.uart := rfl
@[simp] theorem rtCleared_returns (s : State) (m : RtFlags) : (rtCleared m s).returns = s.returns := rfl
@[simp] theorem rtCleared_script (s : State) (m : RtFlags) : (rtCleared m s).script = s.script := rfl
@[simp] theorem rtCleared_draws (s : State) (m : RtFlags) : (rtCleared m s).draws = s.draws := rfl
@[simp] theorem rtCleared_ring (s : State) (m : RtFlags) (buf : Buffer) : (rtCleared m s).ring buf = s.ring buf := by
  cases buf <;> rfl
@[simp] theorem rtCleared_cap (s : State) (m : RtFlags) (buf : Buffer) : (rtCleared m s).cap buf = s.cap buf := rfl

end Sys2Proof.Machine
end

