-- ==== Sys2Proof/Laws/Memory.lean ====
section
/-!
SUPPORT. The laws of a storage array: a write is read back, leaves every other index alone, and keeps the canonical form.
-/

namespace Sys2Proof.Machine

@[simp] theorem Memory.lookup_write_same (m : Memory) (i : Nat) (v : Byte) : (m.write i v).lookup i = some v := by
  induction m with
  | nil => simp [Memory.write, Memory.lookup]
  | cons c rest ih =>
    obtain ⟨j, w⟩ := c
    by_cases h1 : i < j
    · simp [Memory.write, Memory.lookup, h1]
    · by_cases h2 : i = j
      · simp [Memory.write, Memory.lookup, h2]
      · simp [Memory.write, Memory.lookup, h1, h2, ih]

theorem Memory.lookup_write_other (m : Memory) {i k : Nat} (v : Byte) (hk : k ≠ i) :
    (m.write i v).lookup k = m.lookup k := by
  induction m with
  | nil => simp [Memory.write, Memory.lookup, hk]
  | cons c rest ih =>
    obtain ⟨j, w⟩ := c
    by_cases h1 : i < j
    · by_cases h3 : k < i
      · have h4 : k < j := by omega
        have h5 : k ≠ j := by omega
        simp [Memory.write, Memory.lookup, h1, h3, h4, h5, hk]
      · simp [Memory.write, Memory.lookup, h1, h3, hk]
    · by_cases h2 : i = j
      · subst h2
        simp [Memory.write, Memory.lookup, hk]
      · simp [Memory.write, Memory.lookup, h1, h2, ih]

theorem Memory.lookup_write (m : Memory) (i k : Nat) (v : Byte) :
    (m.write i v).lookup k = if k = i then some v else m.lookup k := by
  by_cases h : k = i
  · subst h
    simp
  · simp [h, Memory.lookup_write_other]

theorem Memory.load_write (buf : Buffer) (m : Memory) (i k : Nat) (v : Byte) :
    Memory.load buf k (m.write i v) = if k = i then v else Memory.load buf k m := by
  unfold Memory.load
  rw [Memory.lookup_write]
  by_cases h : k = i <;> simp [h]

theorem Memory.load_of_lookup {buf : Buffer} {m : Memory} {i : Nat} {v : Byte} (h : m.lookup i = some v) :
    Memory.load buf i m = v := by
  simp [Memory.load, h]

theorem Memory.risesFrom_write {lo i : Nat} (v : Byte) {m : Memory} (hlo : lo ≤ i) (h : Memory.risesFrom lo m = true) :
    Memory.risesFrom lo (m.write i v) = true := by
  induction m generalizing lo with
  | nil => simp [Memory.write, Memory.risesFrom, hlo]
  | cons c rest ih =>
    obtain ⟨j, w⟩ := c
    simp only [Memory.risesFrom, Bool.and_eq_true, decide_eq_true_eq] at h
    by_cases h1 : i < j
    · have h3 : i + 1 ≤ j := h1
      simp [Memory.write, Memory.risesFrom, h1, hlo, h3, h.2]
    · by_cases h2 : i = j
      · subst h2
        simp [Memory.write, Memory.risesFrom, hlo, h.2]
      · have h3 : j + 1 ≤ i := by omega
        simp [Memory.write, Memory.risesFrom, h1, h2, h.1, ih h3 h.2]

theorem Memory.wf_write {m : Memory} (i : Nat) (v : Byte) (h : m.wf = true) : (m.write i v).wf = true :=
  Memory.risesFrom_write v (Nat.zero_le i) h

theorem Memory.below_write {m : Memory} {n i : Nat} (v : Byte) (hi : i < n) (h : m.below n = true) :
    (m.write i v).below n = true := by
  induction m with
  | nil => simp [Memory.write, Memory.below, hi]
  | cons c rest ih =>
    obtain ⟨j, w⟩ := c
    simp only [Memory.below, List.all_cons, Bool.and_eq_true, decide_eq_true_eq] at h ih
    by_cases h1 : i < j
    · simp [Memory.write, Memory.below, h1, hi, h.1]
      simpa using h.2
    · by_cases h2 : i = j
      · subst h2
        simp [Memory.write, Memory.below, hi]
        simpa using h.2
      · have := ih (by simpa [Memory.below] using h.2)
        simp [Memory.write, Memory.below, h1, h2, h.1]
        simpa [Memory.below] using this

theorem Memory.reset_wf : Memory.wf ([] : Memory) = true := rfl

end Sys2Proof.Machine
end

