-- ==== Sys2Proof/Laws/Ring.lean ====
section
/-!
SUPPORT. Index arithmetic, and for each shared operation on a ring buffer one lemma that says everything it can do.
-/

namespace Sys2Proof.Machine

/-! ## Sequencing -/

section
variable {α β : Type}

@[simp] theorem andThen_next (a : α) (k : α → Host.Outcome β Fault Refusal) : andThen (.next a) k = k a := rfl
@[simp] theorem andThen_fault (f : Fault) (k : α → Host.Outcome β Fault Refusal) :
    andThen (.fault f) k = .fault f := rfl
@[simp] theorem andThen_refused (r : Refusal) (k : α → Host.Outcome β Fault Refusal) :
    andThen (.refused r) k = .refused r := rfl

theorem andThen_eq_next {x : Host.Outcome α Fault Refusal} {k : α → Host.Outcome β Fault Refusal} {b : β} :
    andThen x k = .next b ↔ ∃ a, x = .next a ∧ k a = .next b := by
  cases x <;> simp

theorem andThen_eq_fault {x : Host.Outcome α Fault Refusal} {k : α → Host.Outcome β Fault Refusal} {f : Fault} :
    andThen x k = .fault f ↔ x = .fault f ∨ ∃ a, x = .next a ∧ k a = .fault f := by
  cases x <;> simp

end

/-! ## Index arithmetic -/

theorem nextIndex_lt {n : Nat} (i : Nat) (hn : 0 < n) : nextIndex n i < n :=
  Nat.mod_lt _ hn

theorem nextIndex_of_lt {n i : Nat} (h : i + 1 < n) : nextIndex n i = i + 1 :=
  Nat.mod_eq_of_lt h

theorem nextIndex_of_eq {n i : Nat} (h : i + 1 = n) : nextIndex n i = 0 := by
  simp [nextIndex, h]

theorem count_of_le {n h t : Nat} (hh : h < n) (ht : t ≤ h) : count n h t = h - t := by
  have e : h + n - t = (h - t) + n := by omega
  have l : h - t < n := by omega
  rw [count, e, Nat.add_mod_right, Nat.mod_eq_of_lt l]

theorem count_of_lt {n h t : Nat} (ht : t < n) (hlt : h < t) : count n h t = h + n - t := by
  have l : h + n - t < n := by omega
  rw [count, Nat.mod_eq_of_lt l]

theorem count_lt {n : Nat} (h t : Nat) (hn : 0 < n) : count n h t < n :=
  Nat.mod_lt _ hn

@[simp] theorem count_self (n h : Nat) : count n h h = 0 := by
  simp [count]

/-! ## Storage access -/

theorem memRead_of_lt {buf : Buffer} {i : Nat} {s : State} (h : i < s.cap buf) :
    memRead buf i s = .next (s.slot buf i) := by
  simp [memRead, h]

theorem memWrite_of_lt {buf : Buffer} {i : Nat} {s : State} (v : Byte) (h : i < s.cap buf) :
    memWrite buf i v s =
      .next (s.setRing buf { s.ring buf with storage := (s.ring buf).storage.write i v }) := by
  simp [memWrite, h]

/-! ## try_push and try_pop -/

/-- The ring after an accepted push. -/
def Ring.pushed (n : Nat) (r : Ring) (b : Byte) : Ring :=
  ⟨nextIndex n r.head, r.tail, r.storage.write r.head b⟩

/-- The ring after a successful pop. -/
def Ring.popped (n : Nat) (r : Ring) : Ring :=
  ⟨r.head, nextIndex n r.tail, r.storage⟩

theorem ringPush_of_full {buf : Buffer} {s : State} (b : Byte) (h : s.isFull buf = true) :
    ringPush buf b s = .next (false, s) := by
  simp [ringPush, h]

theorem ringPush_of_space {buf : Buffer} {s : State} (b : Byte) (h : s.isFull buf = false)
    (hi : (s.ring buf).head < s.cap buf) :
    ringPush buf b s = .next (true, s.setRing buf ((s.ring buf).pushed (s.cap buf) b)) := by
  simp [ringPush, h, memWrite_of_lt b hi, State.setHead, State.next, Ring.pushed]

/-- Everything `ringPush` can do when it goes on. -/
theorem ringPush_eq_next {buf : Buffer} {b : Byte} {s : State} {r : Bool × State} (h : ringPush buf b s = .next r) :
    (s.isFull buf = true ∧ r = (false, s)) ∨
      (s.isFull buf = false ∧ (s.ring buf).head < s.cap buf ∧
        r = (true, s.setRing buf ((s.ring buf).pushed (s.cap buf) b))) := by
  by_cases hf : s.isFull buf = true
  · rw [ringPush_of_full b hf] at h
    exact .inl ⟨hf, by simpa using h.symm⟩
  · have hf' : s.isFull buf = false := by simpa using hf
    by_cases hi : (s.ring buf).head < s.cap buf
    · rw [ringPush_of_space b hf' hi] at h
      exact .inr ⟨hf', hi, by simpa using h.symm⟩
    · simp [ringPush, hf', memWrite, hi] at h

theorem ringPop_of_empty {buf : Buffer} {s : State} (h : s.isEmpty buf = true) :
    ringPop buf s = .next (none, s) := by
  simp [ringPop, h]

theorem ringPop_of_some {buf : Buffer} {s : State} (h : s.isEmpty buf = false)
    (hi : (s.ring buf).tail < s.cap buf) :
    ringPop buf s =
      .next (some (s.slot buf (s.ring buf).tail), s.setRing buf ((s.ring buf).popped (s.cap buf))) := by
  simp [ringPop, h, memRead_of_lt hi, State.setTail, State.next, Ring.popped]

/-- Everything `ringPop` can do when it goes on. -/
theorem ringPop_eq_next {buf : Buffer} {s : State} {r : Option Byte × State} (h : ringPop buf s = .next r) :
    (s.isEmpty buf = true ∧ r = (none, s)) ∨
      (s.isEmpty buf = false ∧ (s.ring buf).tail < s.cap buf ∧
        r = (some (s.slot buf (s.ring buf).tail), s.setRing buf ((s.ring buf).popped (s.cap buf)))) := by
  by_cases hf : s.isEmpty buf = true
  · rw [ringPop_of_empty hf] at h
    exact .inl ⟨hf, by simpa using h.symm⟩
  · have hf' : s.isEmpty buf = false := by simpa using hf
    by_cases hi : (s.ring buf).tail < s.cap buf
    · rw [ringPop_of_some hf' hi] at h
      exact .inr ⟨hf', hi, by simpa using h.symm⟩
    · simp [ringPop, hf', memRead, hi] at h

@[simp] theorem slot_setRing (s : State) (buf : Buffer) (r : Ring) (i : Nat) :
    (s.setRing buf r).slot buf i = Memory.load buf i r.storage := by
  simp [State.slot]

/-- A slot after an accepted push. -/
theorem slot_pushed (s : State) (buf : Buffer) (b : Byte) (i : Nat) :
    (s.setRing buf ((s.ring buf).pushed (s.cap buf) b)).slot buf i =
      if i = (s.ring buf).head then b else s.slot buf i := by
  simp [Ring.pushed, Memory.load_write, State.slot]

/-! ## Contexts and interrupts -/

@[simp] theorem inContext_interrupt (s : State) (k : Out) : inContext .interrupt s k = k := rfl

theorem inContext_main_idle {s : State} (k : Out) (h : s.main = .idle) : inContext .main s k = k := by
  simp [inContext, h]

theorem inContext_main_busy {s : State} (k : Out) (h : s.main ≠ .idle) :
    inContext .main s k = .refused .mainBusy := by
  cases hm : s.main <;> simp [inContext, hm] at h ⊢

theorem takeInterrupt_of_invocable {h : Handler} {s : State} (body : State → Out) (hi : s.invocable h = true) :
    takeInterrupt h body s = body s := by
  simp [takeInterrupt, hi]

theorem takeInterrupt_of_not {h : Handler} {s : State} (body : State → Out) (hi : s.invocable h = false) :
    takeInterrupt h body s = .next s := by
  simp [takeInterrupt, hi]

end Sys2Proof.Machine
end

