-- ==== Sys2Proof/Laws/Arith.lean ====
section
/-!
SUPPORT. Index arithmetic without `mod`, for `omega`; and which slot of a ring is live.
-/

namespace Sys2Proof.Machine

theorem nextIndex_eq {n i : Nat} (hi : i < n) : nextIndex n i = if i + 1 = n then 0 else i + 1 := by
  split
  · exact nextIndex_of_eq ‹_›
  · exact nextIndex_of_lt (by omega)

theorem count_eq {n h t : Nat} (hh : h < n) (ht : t < n) : count n h t = if t ≤ h then h - t else h + n - t := by
  split
  · exact count_of_le hh ‹_›
  · exact count_of_lt ht (by omega)

theorem mod_eq_of_lt_two_mul {n a : Nat} (h : a < 2 * n) : a % n = if a < n then a else a - n := by
  split
  · exact Nat.mod_eq_of_lt ‹_›
  · rw [Nat.mod_eq_sub_mod (by omega), Nat.mod_eq_of_lt (by omega)]

theorem count_pos {n h t : Nat} (hh : h < n) (ht : t < n) (hne : h ≠ t) : 0 < count n h t := by
  rw [count_eq hh ht]
  split <;> omega

/-- The slot after the youngest live byte is the head. -/
theorem slot_after_live {n h t : Nat} (hh : h < n) (ht : t < n) : (t + count n h t) % n = h := by
  rw [count_eq hh ht, mod_eq_of_lt_two_mul (by split <;> omega)]
  (repeat' split) <;> omega

/-- No other slot counted from the tail is the head. -/
theorem slot_ne_head {n h t k : Nat} (hh : h < n) (ht : t < n) (hk : k < n) (hne : k ≠ count n h t) :
    (t + k) % n ≠ h := by
  rw [count_eq hh ht] at hne
  rw [mod_eq_of_lt_two_mul (by omega)]
  revert hne
  (repeat' split) <;> omega

/-- Counting from the successor of the tail. -/
theorem nextIndex_add {n t k : Nat} : (nextIndex n t + k) % n = (t + (k + 1)) % n := by
  unfold nextIndex
  rw [Nat.mod_add_mod]
  congr 1
  omega

/-- A discard at `m` takes the count up to `m` off the count. -/
theorem count_split {n h t m : Nat} (hh : h < n) (ht : t < n) (hm : m < n) (hc : count n m t ≤ count n h t) :
    count n h m = count n h t - count n m t := by
  rw [count_eq hh ht, count_eq hm ht] at *
  rw [count_eq hh hm]
  (repeat' split at *) <;> omega

end Sys2Proof.Machine
end

