-- ==== Sys2Proof/Laws/PerInstr.lean ====
section
/-!
SUPPORT. A statement about every instruction as syntax, one lemma per constructor: a line has eight bytes, so the
decoder never answers `badLength` on an encoded instruction.
-/

namespace Sys2Proof.Laws.EncodeLength

/-- The line of an instruction has eight bytes. -/
def Statement (i : Instr) : Prop := ∀ p : Params, (encode p i).length = 8

theorem rxStatusReport : Statement .rxStatusReport := fun _ => rfl
theorem rxCycleStart : Statement .rxCycleStart := fun _ => rfl
theorem rxFeedHold : Statement .rxFeedHold := fun _ => rfl
theorem rxSafetyDoor : Statement .rxSafetyDoor := fun _ => rfl
theorem rxReset : Statement .rxReset := fun _ => rfl
theorem rxForward (b : Byte) : Statement (.rxForward b) := fun _ => rfl
theorem txPause : Statement .txPause := fun _ => rfl
theorem txResume : Statement .txResume := fun _ => rfl
theorem txData (v : Byte) : Statement (.txData v) := fun _ => rfl
theorem init (baud : Baud) : Statement (.init baud) := fun _ => rfl
theorem writeByte (b : Byte) : Statement (.writeByte b) := fun _ => rfl
theorem readByte : Statement .readByte := fun _ => rfl
theorem resetReadBuffer : Statement .resetReadBuffer := fun _ => rfl
theorem onRxReady : Statement .onRxReady := fun _ => rfl
theorem onTxReady : Statement .onTxReady := fun _ => rfl
theorem rtTestAndClear (m : RtFlags) : Statement (.rtTestAndClear m) := fun _ => rfl
theorem tryPush (buf : Buffer) (b : Byte) : Statement (.tryPush buf b) := fun _ => rfl
theorem tryPop (buf : Buffer) : Statement (.tryPop buf) := fun _ => rfl
theorem occupancy (buf : Buffer) : Statement (.occupancy buf) := fun _ => rfl
theorem reset (buf : Buffer) : Statement (.reset buf) := fun _ => rfl
theorem classify (b : Byte) : Statement (.classify b) := fun _ => rfl
theorem configureUart (baud : Baud) : Statement (.configureUart baud) := fun _ => rfl
theorem hardwareSendByte (v : Byte) : Statement (.hardwareSendByte v) := fun _ => rfl
theorem hardwareReceiveByte : Statement .hardwareReceiveByte := fun _ => rfl
theorem enableTxInterrupt : Statement .enableTxInterrupt := fun _ => rfl
theorem disableTxInterrupt : Statement .disableTxInterrupt := fun _ => rfl
theorem invokeEmergencyReset : Statement .invokeEmergencyReset := fun _ => rfl

end Sys2Proof.Laws.EncodeLength
end

