-- ==== Sys2Proof/Laws/Transport.lean ====
section
/-!
SUPPORT. For each shared operation of the interceptor, the flow control and the driver one lemma that says everything it
can do when it goes on.
-/

namespace Sys2Proof.Machine

theorem FlowCtrl.isRequest_eq_true {f : FlowCtrl} :
    f.isRequest = true ↔ f = .pauseRequested ∨ f = .resumeRequested := by
  cases f <;> simp [FlowCtrl.isRequest]

theorem FlowCtrl.isRequest_eq_false {f : FlowCtrl} :
    f.isRequest = false ↔ f ≠ .pauseRequested ∧ f ≠ .resumeRequested := by
  cases f <;> simp [FlowCtrl.isRequest]

/-- A call goes on only in its own context, or with MAIN idle. -/
theorem inContext_eq_next {c : Context} {s t : State} {k : Out} (h : inContext c s k = .next t) :
    (c = .interrupt ∨ s.main = .idle) ∧ k = .next t := by
  unfold inContext at h
  split at h
  · exact ⟨.inl rfl, h⟩
  · exact ⟨.inr ‹_›, h⟩
  · simp at h

theorem startOp_eq_next {op : MainOp} {s t : State} (h : startOp op s = .next t) :
    s.main = .idle ∧ t = s.at (entry op) := by
  obtain ⟨hc, h⟩ := inContext_eq_next h
  exact ⟨by simpa using hc, by simpa using h.symm⟩

theorem wholeOp_eq_next {op : MainOp} {n : Nat} {s t : State} (h : wholeOp op n s = .next t) :
    s.main = .idle ∧ runMain n (s.at (entry op)) = .next t := by
  rw [wholeOp, andThen_eq_next] at h
  obtain ⟨u, h1, h2⟩ := h
  obtain ⟨hm, rfl⟩ := startOp_eq_next h1
  exact ⟨hm, h2⟩

theorem takeInterrupt_eq_next {h : Handler} {body : State → Out} {s t : State} (e : takeInterrupt h body s = .next t) :
    (s.invocable h = true ∧ body s = .next t) ∨ (s.invocable h = false ∧ t = s) := by
  unfold takeInterrupt at e
  split at e
  · exact .inl ⟨‹_›, e⟩
  · exact .inr ⟨by simpa using ‹¬s.invocable h = true›, by simpa using e.symm⟩

/-- A forwarded byte is dropped, or pushed and evaluated. -/
theorem forward_eq_next {b : Byte} {s t : State} (h : forward b s = .next t) :
    (s.isFull .rx = true ∧ t = s) ∨
      (s.isFull .rx = false ∧ s.rx.head < s.params.rxN ∧
        t = pauseEvaluation (s.setRing .rx (s.rx.pushed s.params.rxN b))) := by
  rw [forward, andThen_eq_next] at h
  obtain ⟨r, h1, h2⟩ := h
  rcases ringPush_eq_next h1 with ⟨a, rfl⟩ | ⟨a, b, rfl⟩
  · exact .inl ⟨a, by simpa using h2.symm⟩
  · exact .inr ⟨a, b, by simpa using h2.symm⟩

theorem classify_eq_forward {p : Params} {b b' : Byte} (h : classify p b = .forward b') : b' = b := by
  unfold classify at h
  repeat' (split at h)
  all_goals simp at h
  exact h.symm

/-- An invoked `on_rx_ready` applies one effect or forwards the byte. -/
theorem onRxReady_eq_next {s t : State} (h : onRxReady s = .next t) (hi : s.invocable .onRxReady = true) :
    ∃ b rest, s.wireIn = b :: rest ∧
      ((∃ e, classify s.params b = .intercepted e ∧ t = applyEffect e { s with wireIn := rest }) ∨
        (classify s.params b = .forward b ∧ forward b { s with wireIn := rest } = .next t)) := by
  cases hw : s.wireIn with
  | nil => simp [State.invocable, State.pending, hw] at hi
  | cons b rest =>
    refine ⟨b, rest, rfl, ?_⟩
    simp only [onRxReady, hardwareReceive, hw, applyAction] at h
    split at h
    · exact .inl ⟨_, ‹_›, by simpa using h.symm⟩
    · rename_i b' hc
      obtain rfl := classify_eq_forward hc
      exact .inr ⟨hc, h⟩

/-- `on_tx_ready` sends the pause byte, the resume byte, the oldest queued byte or nothing, and then tests for empty. -/
theorem onTxReady_eq_next {s t : State} (h : onTxReady s = .next t) :
    ∃ u, t = disarmIfEmpty u ∧
      ((pauseDue s = true ∧ u = sendPause s) ∨
        (pauseDue s = false ∧ resumeByteDue s = true ∧ u = sendResume s) ∨
        (pauseDue s = false ∧ resumeByteDue s = false ∧ s.tx.head = s.tx.tail ∧ u = s) ∨
        (pauseDue s = false ∧ resumeByteDue s = false ∧ s.tx.head ≠ s.tx.tail ∧ s.tx.tail < s.params.txN ∧
          u = hardwareSend (s.slot .tx s.tx.tail) (s.setRing .tx (s.tx.popped s.params.txN)))) := by
  rw [onTxReady, andThen_eq_next] at h
  obtain ⟨u, h1, h2⟩ := h
  refine ⟨u, by simpa using h2.symm, ?_⟩
  unfold transmit at h1
  split at h1
  · exact .inl ⟨‹_›, by simpa using h1.symm⟩
  · have hp : pauseDue s = false := by simpa using ‹¬pauseDue s = true›
    split at h1
    · exact .inr (.inl ⟨hp, ‹_›, by simpa using h1.symm⟩)
    · have hr : resumeByteDue s = false := by simpa using ‹¬resumeByteDue s = true›
      rw [sendData, andThen_eq_next] at h1
      obtain ⟨r, h1, h2⟩ := h1
      rcases ringPop_eq_next h1 with ⟨a, rfl⟩ | ⟨a, b, rfl⟩
      · exact .inr (.inr (.inl ⟨hp, hr, by simpa [State.isEmpty] using a, by simpa using h2.symm⟩))
      · exact .inr (.inr (.inr ⟨hp, hr, by simpa [State.isEmpty] using a, b, by simpa using h2.symm⟩))

/-- TX.DATA sends the oldest queued byte, or does nothing. -/
theorem execTxData_eq_next {v : Byte} {s t : State} (h : execTxData v s = .next t) :
    t = s ∨ (pauseDue s = false ∧ resumeByteDue s = false ∧ s.tx.head ≠ s.tx.tail ∧ s.tx.tail < s.params.txN ∧
      v = s.slot .tx s.tx.tail ∧ t = hardwareSend v (s.setRing .tx (s.tx.popped s.params.txN))) := by
  unfold execTxData at h
  split at h
  · exact .inl (by simpa using h.symm)
  · rename_i hd
    rw [andThen_eq_next] at h
    obtain ⟨r, h1, h2⟩ := h
    rcases ringPop_eq_next h1 with ⟨a, rfl⟩ | ⟨a, b, rfl⟩
    · exact .inl (by simpa using h2.symm)
    · split at h2
      · rename_i hv
        simp at hd
        exact .inr ⟨hd.1, hd.2, by simpa [State.isEmpty] using a, b, by simpa using hv.symm, by simpa using h2.symm⟩
      · exact .inl (by simpa using h2.symm)

/-- The pause evaluation requests a pause exactly under its condition. -/
theorem pauseEvaluation_cases (s : State) :
    (s.params.xonxoffEnable = true ∧ s.params.highWatermark ≤ s.occupancy .rx ∧ s.flowCtrl = .resumeAcknowledged ∧
        pauseEvaluation s = { s with flowCtrl := .pauseRequested, txIrqEn := true }) ∨
      (¬(s.params.xonxoffEnable = true ∧ s.params.highWatermark ≤ s.occupancy .rx ∧
          s.flowCtrl = .resumeAcknowledged) ∧ pauseEvaluation s = s) := by
  by_cases h : s.params.xonxoffEnable = true ∧ s.params.highWatermark ≤ s.occupancy .rx ∧
      s.flowCtrl = .resumeAcknowledged
  · exact .inl ⟨h.1, h.2.1, h.2.2, by unfold pauseEvaluation; rw [if_pos h]; rfl⟩
  · exact .inr ⟨h, by unfold pauseEvaluation; rw [if_neg h]⟩

/-! ## MAIN's micro-steps -/

/-- What no micro-step of MAIN writes, and that it only arms. -/
theorem mainStep_frame {s t : State} (h : mainStep s = .next t) :
    t.rx.head = s.rx.head ∧ t.rx.storage = s.rx.storage ∧ t.tx.tail = s.tx.tail ∧ t.wireIn = s.wireIn ∧
      t.wireOut = s.wireOut ∧ t.resetCalls = s.resetCalls ∧ t.txReady = s.txReady ∧ t.abort = s.abort ∧
      (s.txIrqEn = true → t.txIrqEn = true) ∧ t.params = s.params ∧ t.script = s.script ∧ t.draws = s.draws := by
  unfold mainStep at h
  cases hm : s.main <;> simp only [hm] at h
  all_goals
    try simp only [stepInit, stepW1, stepW2, stepW3, stepW4, stepW5, stepW6, stepRd1, stepRd2, stepRd3, stepRd4, stepRd5,
      stepRd6, stepRs1, stepRs2, stepRs3, stepRt, memWrite, memRead] at h
  all_goals (try split at h)
  all_goals simp only [andThen_next, andThen_fault, Host.Outcome.next.injEq, reduceCtorEq] at h
  all_goals subst h
  all_goals
    simp [State.finish, State.finishWith, State.record, State.at, configureUart, State.setHead, State.setTail, enableTx,
      rtCleared]

theorem runMain_of_idle (n : Nat) {s : State} (h : s.main = .idle) : runMain n s = .next s := by
  cases n <;> simp [runMain, h]

theorem runTo_of_idle (l : MicroStep) (n : Nat) {s : State} (h : s.main = .idle) : runTo l n s = .next s := by
  cases n <;> simp [runTo, h, MainState.mstep]

end Sys2Proof.Machine
end

