-- ==== Sys2Proof/Tests/Slice0.lean ====
section
/-!
SUPPORT. Tests: the checks of WellFormed refuse ill-formed terms; words written out from R72, R74, R82 and R83 decode; one
step per instruction, with the results of 95_test_vectors.md; and for every statement with hypotheses a state that meets
them.
-/

open Sys2Proof Sys2Proof.Machine Sys2Proof.Claims

namespace Sys2Proof.Tests

/-! ## Helpers -/

/-- The outcome is a next state with a property. -/
def ok (o : Out) (f : State → Bool) : Bool :=
  match o with
  | .next t => f t
  | .fault _ => false
  | .refused _ => false

/-- The outcome is a refusal by this name. -/
def refusedBy (o : Out) (r : Refusal) : Bool :=
  match o with
  | .next _ => false
  | .fault _ => false
  | .refused q => decide (q = r)

/-- The parameters of program P3: RX 8, TX 4, watermarks 5 and 2. -/
def p3 : Params := { Params.default with rxN := 8, txN := 4, highWatermark := 5, lowWatermark := 2 }

/-- P3 without flow control. -/
def p3off : Params := { p3 with xonxoffEnable := false }

/-- After `init`, the UART ready, the TX-ready interrupt armed. -/
def live (p : Params) : State := { State.resetWith p with uart := some 0, txReady := true, txIrqEn := true }

/-- Default parameters, with RX indices and storage. -/
def withRx (h t : Nat) (m : Memory) : State := { live Params.default with rx := ⟨h, t, m⟩, txIrqEn := false }

/-- Default parameters, with TX indices and storage. -/
def withTx (h t : Nat) (m : Memory) : State := { live Params.default with tx := ⟨h, t, m⟩ }

/-- Five live bytes in an RX of eight (P3, line 5). -/
def five : Ring := ⟨5, 0, [(0, 0x30), (1, 0x31), (2, 0x32), (3, 0x33), (4, 0x34)]⟩

/-- A full TX of four (P5). -/
def full : Ring := ⟨3, 0, [(0, 0x61), (1, 0x62), (2, 0x63)]⟩

/-! ## WellFormed: each check refuses an ill-formed term -/

theorem test_wf_default : Params.default.wf = true ∧ p3.wf = true ∧ p3off.wf = true := by decide
theorem test_wf_refuses_rx_capacity : Params.wf { Params.default with rxN := 1, xonxoffEnable := false } = false := by
  decide
theorem test_wf_refuses_tx_capacity : Params.wf { Params.default with txN := 1 } = false := by decide
theorem test_wf_refuses_low_watermark : Params.wf { Params.default with lowWatermark := 0 } = false := by decide
theorem test_wf_refuses_equal_watermarks : Params.wf { Params.default with lowWatermark := 100 } = false := by decide
theorem test_wf_refuses_high_watermark : Params.wf { Params.default with highWatermark := 127 } = false := by decide
theorem test_wf_refuses_equal_commands : Params.wf { Params.default with cmdReset := 0x21 } = false := by decide
theorem test_wf_refuses_equal_controls : Params.wf { Params.default with resumeByte := 0x13 } = false := by decide
theorem test_wf_refuses_equal_positions : Params.wf { Params.default with bitFeedHold := 5 } = false := by decide
theorem test_wf_ignores_watermarks_without_flow_control :
    Params.wf { Params.default with lowWatermark := 0, xonxoffEnable := false } = true := by decide
theorem test_wf_refuses_forward_of_a_command :
    Instr.wf Params.default (.rxForward 0x18) = false ∧ Instr.wf Params.default (.rxForward 0x19) = true := by decide

/-! ## Decode: words from the spec's own encodings -/

/-- R72, with the default command values of R9. -/
theorem test_decode_received :
    decode Params.default [0x3F, 0, 0, 1, 0, 0, 0, 0] = .ok .rxStatusReport ∧
    decode Params.default [0x7E, 0, 0, 1, 0, 0, 0, 0] = .ok .rxCycleStart ∧
    decode Params.default [0x21, 0, 0, 1, 0, 0, 0, 0] = .ok .rxFeedHold ∧
    decode Params.default [0x40, 0, 0, 1, 0, 0, 0, 0] = .ok .rxSafetyDoor ∧
    decode Params.default [0x18, 0, 0, 1, 0, 0, 0, 0] = .ok .rxReset ∧
    decode Params.default [0x13, 0, 0, 1, 0, 0, 0, 0] = .ok (.rxForward 0x13) := by decide
/-- R74, with the default control values of R9. -/
theorem test_decode_transmitted :
    decode Params.default [0x13, 0, 0, 2, 0, 0, 0, 0] = .ok .txPause ∧
    decode Params.default [0x11, 0, 0, 2, 0, 0, 0, 0] = .ok .txResume ∧
    decode Params.default [0x58, 0, 0, 2, 0, 0, 0, 0] = .ok (.txData 0x58) ∧
    decode Params.default [0x13, 0, 0, 4, 0, 0, 0, 0] = .ok (.txData 0x13) := by decide
/-- R82, selectors 0x00 to 0x06. -/
theorem test_decode_public_operations :
    decode Params.default [0x00, 0, 0, 0, 0x00, 0xC2, 0x01, 0x00] = .ok (.init 115200) ∧
    decode Params.default [0x01, 0x6F, 0, 0, 0, 0, 0, 0] = .ok (.writeByte 0x6F) ∧
    decode Params.default [0x02, 0, 0, 0, 0, 0, 0, 0] = .ok .readByte ∧
    decode Params.default [0x03, 0, 0, 0, 0, 0, 0, 0] = .ok .resetReadBuffer ∧
    decode Params.default [0x04, 0, 0, 0, 0, 0, 0, 0] = .ok .onRxReady ∧
    decode Params.default [0x05, 0, 0, 0, 0, 0, 0, 0] = .ok .onTxReady ∧
    decode Params.default [0x06, 0x04, 0, 0, 0, 0, 0, 0] = .ok (.rtTestAndClear ⟨false, false, true, false⟩) := by decide
/-- R82, selectors 0x08 to 0x0C; the buffer selector of R83, RX = 0, TX = 1. -/
theorem test_decode_primitives :
    decode Params.default [0x08, 0x47, 1, 0, 0, 0, 0, 0] = .ok (.tryPush .tx 0x47) ∧
    decode Params.default [0x09, 0, 0, 0, 0, 0, 0, 0] = .ok (.tryPop .rx) ∧
    decode Params.default [0x0A, 0, 1, 0, 0, 0, 0, 0] = .ok (.occupancy .tx) ∧
    decode Params.default [0x0B, 0, 0, 0, 0, 0, 0, 0] = .ok (.reset .rx) ∧
    decode Params.default [0x0C, 0x18, 0, 0, 0, 0, 0, 0] = .ok (.classify 0x18) := by decide
/-- R82, selectors 0x10 to 0x15. -/
theorem test_decode_outward_calls :
    decode Params.default [0x10, 0, 0, 0, 0x01, 0, 0, 0] = .ok (.configureUart 1) ∧
    decode Params.default [0x11, 0x58, 0, 0, 0, 0, 0, 0] = .ok (.hardwareSendByte 0x58) ∧
    decode Params.default [0x12, 0, 0, 0, 0, 0, 0, 0] = .ok .hardwareReceiveByte ∧
    decode Params.default [0x13, 0, 0, 0, 0, 0, 0, 0] = .ok .enableTxInterrupt ∧
    decode Params.default [0x14, 0, 0, 0, 0, 0, 0, 0] = .ok .disableTxInterrupt ∧
    decode Params.default [0x15, 0, 0, 0, 0, 0, 0, 0] = .ok .invokeEmergencyReset := by decide
/-- R77: selectors outside the table of R82; and fields an operation does not have. -/
theorem test_decode_rejects :
    decode Params.default [0x07, 0, 0, 3, 0, 0, 0, 0] = .reject .noSuchOperation ∧
    decode Params.default [0x16, 0, 0, 3, 0, 0, 0, 0] = .reject .noSuchOperation ∧
    decode Params.default [0x02, 1, 0, 0, 0, 0, 0, 0] = .reject .reservedBits ∧
    decode Params.default [0x09, 0, 2, 0, 0, 0, 0, 0] = .reject .reservedBits ∧
    decode Params.default [0x06, 0x10, 0, 0, 0, 0, 0, 0] = .reject .reservedBits ∧
    decode Params.default [0x02, 0, 0, 5, 0, 0, 0, 0] = .reject .badMark ∧
    decode Params.default [0x02] = .reject .badLength := by decide
/-- The opcode table's rows, by their match values. -/
theorem test_decode_table_words :
    decodeTableWord 8 0x3F = some .rxStatusReport ∧ decodeTableWord 8 0x41 = some (.rxForward 0x41) ∧
    decodeTableWord 8 0x05 = some .onTxReady ∧ decodeTableWord 8 0x15 = some .invokeEmergencyReset := by decide

/-! ## One step per instruction -/

/-- R132 to R137: four commands, four flags, nothing stored. -/
theorem test_flag_effects :
    ok (exec .rxStatusReport (live p3)) (fun t => t.rtPending == ⟨true, false, false, false⟩ && t.rx.head == 0) = true ∧
    ok (exec .rxCycleStart (live p3)) (fun t => t.rtPending == ⟨false, true, false, false⟩) = true ∧
    ok (exec .rxFeedHold (live p3)) (fun t => t.rtPending == ⟨false, false, true, false⟩) = true ∧
    ok (exec .rxSafetyDoor (live p3)) (fun t => t.rtPending == ⟨false, false, false, true⟩) = true := by decide
/-- R136: one event, the latch as it was. -/
theorem test_reset_command :
    ok (exec .rxReset (withRx 127 0 [])) (fun t => t.resetCalls == 1 && t.rtPending == noFlags && t.rx.head == 127) =
      true := by decide
/-- 95 §2.7, occupancy 4 to 5 at a high watermark of 5; §2.10, a drop. -/
theorem test_forward_requests_a_pause :
    ok (exec (.rxForward 0x34) { live p3 with rx := ⟨4, 0, []⟩, txIrqEn := false })
      (fun t => t.rx.head == 5 && t.flowCtrl == .pauseRequested && t.txIrqEn && t.slot .rx 4 == 0x34) = true ∧
    exec (.rxForward 0x47) (withRx 127 0 []) = .next (withRx 127 0 []) := by
  refine ⟨by decide, rfl⟩
/-- 95 §2.7: a control byte goes out in its request state. -/
theorem test_control_bytes :
    ok (exec .txPause { live p3 with flowCtrl := .pauseRequested })
      (fun t => t.wireOut == [0x13] && t.flowCtrl == .pauseAcknowledged) = true ∧
    ok (exec .txResume { live p3 with flowCtrl := .resumeRequested })
      (fun t => t.wireOut == [0x11] && t.flowCtrl == .resumeAcknowledged) = true := by decide
/-- 95 §2.11, first row, as a transmitted byte. -/
theorem test_data_byte :
    ok (exec (.txData 0x6F) (withTx 2 0 [(0, 0x6F)])) (fun t => t.wireOut == [0x6F] && t.tx.tail == 1) = true := by decide
/-- R150, R181, R232. -/
theorem test_init :
    ok (exec (.init 115200) State.reset) (fun t => t.uart == some 115200 && t.enabled .onRxReady && !t.txIrqEn) =
      true := by decide
/-- 95 §2.8: the wrap, and the abort of a full buffer. -/
theorem test_write_byte :
    ok (exec (.writeByte 0x0A) (withTx 63 5 []))
      (fun t => t.tx.head == 0 && t.slot .tx 63 == 0x0A && t.txIrqEn && t.returns == [.done]) = true ∧
    ok (exec (.writeByte 0x32) { withTx 63 0 [] with abort := true })
      (fun t => t.tx.head == 63 && t.returns == [.aborted]) = true := by decide
/-- 95 P5, line 4: a writer that waits stands at W2. -/
theorem test_write_byte_waits :
    ok (exec (.writeByte 0x64) { live p3 with tx := full })
      (fun t => t.main.mstep == some .w2 && t.tx == full && t.returns == []) = true := by decide
/-- 95 §2.9, rows 4 and 5: `c = 19` requests a resume, `c = 20` does not. -/
theorem test_read_byte :
    ok (exec .readByte { withRx 30 10 [(10, 0x47)] with flowCtrl := .pauseAcknowledged })
      (fun t => t.rx.tail == 11 && t.flowCtrl == .resumeRequested && t.txIrqEn && t.returns == [.data 0x47]) = true ∧
    ok (exec .readByte { withRx 31 10 [(10, 0x47)] with flowCtrl := .pauseAcknowledged })
      (fun t => t.rx.tail == 11 && t.flowCtrl == .pauseAcknowledged && !t.txIrqEn) = true := by decide
/-- 95 §1, E3; and §2.7 without flow control. -/
theorem test_reset_read_buffer :
    ok (exec .resetReadBuffer { withRx 77 3 [] with flowCtrl := .pauseAcknowledged })
      (fun t => t.rx.tail == 77 && t.flowCtrl == .resumeAcknowledged && !t.txIrqEn && t.wireOut == []) = true ∧
    ok (exec .resetReadBuffer { live p3off with rx := five }) (fun t => t.rx.tail == 5) = true := by decide
/-- 95 §2.10, rows 2 and 5. -/
theorem test_on_rx_ready :
    ok (exec .onRxReady { withRx 127 3 [] with wireIn := [0x47, 0x48] })
      (fun t => t.rx.head == 0 && t.slot .rx 127 == 0x47 && t.flowCtrl == .pauseRequested && t.txIrqEn &&
        t.wireIn == [0x48]) = true ∧
    ok (exec .onRxReady { withRx 127 0 [] with wireIn := [0x3F] })
      (fun t => t.rx.head == 127 && t.rtPending.statusReport) = true := by decide
/-- 95 §2.11, rows 3 and 4. -/
theorem test_on_tx_ready :
    ok (exec .onTxReady { withTx 0 63 [(63, 0x0A)] with flowCtrl := .pauseAcknowledged })
      (fun t => t.tx.tail == 0 && t.wireOut == [0x0A] && !t.txIrqEn) = true ∧
    ok (exec .onTxReady { withTx 3 0 [] with flowCtrl := .pauseRequested })
      (fun t => t.tx.tail == 0 && t.wireOut == [0x13] && t.txIrqEn && t.flowCtrl == .pauseAcknowledged) = true := by decide
/-- 95 §2.11, row 7 (the spurious invocation) and row 9 (not invocable). -/
theorem test_on_tx_ready_without_data :
    ok (exec .onTxReady (withTx 2 2 [])) (fun t => t.tx.tail == 2 && t.wireOut == [] && !t.txIrqEn) = true ∧
    ok (exec .onTxReady { withTx 2 0 [] with txIrqEn := false }) (fun t => t.tx.tail == 0 && t.wireOut == []) = true := by
  decide
/-- 95 §2.6, row 3. -/
theorem test_rt_test_and_clear :
    ok (exec (.rtTestAndClear ⟨false, false, true, false⟩) { live p3 with rtPending := ⟨true, false, true, false⟩ })
      (fun t => t.rtPending == ⟨true, false, false, false⟩ && t.returns == [.flags ⟨false, false, true, false⟩]) =
      true := by decide
/-- 95 §2.2, rows 2 and 3. -/
theorem test_try_push :
    ok (exec (.tryPush .rx 0x47) (withRx 127 5 []))
      (fun t => t.rx.head == 0 && t.slot .rx 127 == 0x47 && t.returns == [.pushed true]) = true ∧
    ok (exec (.tryPush .rx 0x47) (withRx 4 5 [])) (fun t => t.rx.head == 4 && t.returns == [.pushed false]) = true := by
  decide
/-- 95 §2.3, rows 2 and 4. -/
theorem test_try_pop :
    ok (exec (.tryPop .rx) (withRx 9 9 [])) (fun t => t.rx.tail == 9 && t.returns == [.popped none]) = true ∧
    ok (exec (.tryPop .tx) (withTx 2 63 [(63, 0x6F)]))
      (fun t => t.tx.tail == 0 && t.returns == [.popped (some 0x6F)] && t.slot .tx 63 == 0x6F) = true := by decide
/-- 95 §2.4. -/
theorem test_occupancy :
    ok (exec (.occupancy .rx) (withRx 3 120 [])) (fun t => t.returns == [.count 11]) = true ∧
    ok (exec (.occupancy .rx) (withRx 4 5 [])) (fun t => t.returns == [.count 127]) = true := by decide
/-- 95 §2.4. -/
theorem test_ring_reset :
    ok (exec (.reset .rx) (withRx 2 100 [])) (fun t => t.rx.tail == 2 && t.rx.head == 2 && t.returns == []) = true := by
  decide
/-- 95 §2.5. -/
theorem test_classify :
    ok (exec (.classify 0x18) (live p3)) (fun t => t.returns == [.action (.intercepted .reset)]) = true ∧
    ok (exec (.classify 0x17) (live p3)) (fun t => t.returns == [.action (.forward 0x17)]) = true := by decide
/-- R181 to R186. -/
theorem test_outward_calls :
    ok (exec (.configureUart 7) State.reset) (fun t => t.uart == some 7) = true ∧
    ok (exec (.hardwareSendByte 0x58) (live p3)) (fun t => t.wireOut == [0x58]) = true ∧
    ok (exec .hardwareReceiveByte { live p3 with wireIn := [0x41, 0x42] })
      (fun t => t.wireIn == [0x42] && t.returns == [.byte 0x41]) = true ∧
    ok (exec .enableTxInterrupt State.reset) (fun t => t.txIrqEn) = true ∧
    ok (exec .disableTxInterrupt (live p3)) (fun t => !t.txIrqEn) = true ∧
    ok (exec .invokeEmergencyReset (live p3)) (fun t => t.resetCalls == 1) = true := by decide

/-! ## Script lines -/

/-- 95 P7, lines 2 and 5: up to W5, and the rest. -/
theorem test_run_to_w5 :
    ok (runLine (.opTo (.writeByte 0x32) .w5) (live p3)) (fun t => t.tx.head == 1 && t.main.mstep == some .w6) = true ∧
    ok (runLine .continueRest { live p3 with main := .atW6 0x32 1 0, txIrqEn := false })
      (fun t => t.txIrqEn && t.main == .idle && t.returns == [.done]) = true := by decide
/-- 95 P5, lines 4, 5 and 7. -/
theorem test_wait_loop :
    ok (runLine (.opTo (.writeByte 0x64) .w3) { live p3 with tx := full }) (fun t => t.main.mstep == some .w2) = true ∧
    ok (runLine (.continueTo .w3) { live p3 with tx := full, main := .atW2 0x64 0 (some 0) })
      (fun t => t.main == .atW2 0x64 0 (some 0) && t.tx == full) = true ∧
    ok (runLine .continueRest { live p3 with tx := full, main := .atW2 0x64 0 (some 0), abort := true })
      (fun t => t.returns == [.aborted] && t.tx == full) = true := by decide
/-- 95 P8, line 3: a byte pushed between Rs1 and Rs2 stays live. -/
theorem test_reset_against_push :
    ok (runLine .continueRest { withRx 3 0 [] with main := .atRs2 2 }) (fun t => t.rx.tail == 2 && t.occupancy .rx == 1) =
      true := by decide
/-- U10. -/
theorem test_second_operation_is_refused :
    refusedBy (exec .readByte { live p3 with main := .atRd1 }) .mainBusy = true := by decide
/-- A placed word is the next instruction, from reset. -/
theorem test_placed_word_runs :
    ok (step (State.reset.withFetchWord 8 0x13)) (fun t => t.txIrqEn && t.script == []) = true := by decide

/-! ## Witnesses: the hypotheses of the statements, met by concrete states

One theorem per statement with hypotheses, named after it; a clause that has its own hypothesis has its own state. -/

/-- The invariant from its parts about each buffer. -/
theorem inv_of {s : State}
    (h : s.params.wf = true ∧ (s.indexOk .rx ∧ s.indexOk .tx) ∧ (s.storageOk .rx ∧ s.storageOk .tx) ∧
      (s.liveWritten .rx ∧ s.liveWritten .tx) ∧ s.flowHeld) (hl : s.localsOk) : s.Inv := by
  obtain ⟨a, ⟨b, b'⟩, ⟨c, c'⟩, ⟨d, d'⟩, e⟩ := h
  refine ⟨a, ?_, ?_, ?_, hl, e⟩ <;> intro buf <;> cases buf <;> assumption

/-- P3 with five bytes in RX, two in TX, and a writer past its test. -/
def mid : State :=
  { live p3 with rx := five, tx := ⟨2, 0, [(0, 0x61), (1, 0x62)]⟩, main := .atW4 0x63 3 0, script := [.move .main] }

theorem mid_inv : mid.Inv := by
  refine inv_of ?_ ?_
  · unfold State.indexOk State.storageOk State.liveWritten State.flowHeld
    decide
  · exact ⟨rfl, by decide⟩

/-- P3 drained after a run: nothing queued, nothing armed. -/
def rest : State := { live p3 with rx := ⟨5, 5, five.storage⟩, tx := ⟨3, 3, full.storage⟩, txIrqEn := false }

theorem rest_inv : rest.Inv := by
  refine inv_of ?_ trivial
  unfold State.indexOk State.storageOk State.liveWritten State.flowHeld
  decide

theorem mid_armed : mid.Armed := by
  unfold State.Armed
  decide

theorem mid_step : ∃ t, step mid = .next t := ⟨_, rfl⟩

theorem witness_DecodeOfEncodeIsTheInstruction :
    p3.wf = true ∧ Instr.wf p3 (.rxForward 0x41) = true ∧ Instr.wf p3 (.rtTestAndClear ⟨true, true, true, true⟩) = true := by
  decide
theorem witness_SelectorsOutsideTheTableAreRejected :
    let outside (b : Byte) : Prop :=
      b ∉ ([0x00, 0x01, 0x02, 0x03, 0x04, 0x05, 0x06, 0x08, 0x09, 0x0A, 0x0B, 0x0C, 0x10, 0x11, 0x12, 0x13, 0x14,
        0x15] : List Byte)
    (Fields.mark ⟨0x07, 0, 0, 3, 0⟩ = 3) ∧ outside 0x07 ∧ outside 0x0D ∧ outside 0x0F ∧ outside 0x16 ∧ outside 0xFF := by
  decide
theorem witness_ReceivedBytesDecodeByEquality :
    Params.default.wf = true ∧ NoCommand Params.default 0x17 ∧ NoCommand Params.default 0x19 ∧
      NoCommand Params.default 0x00 ∧ NoCommand Params.default 0xFF := by
  unfold NoCommand
  decide
theorem witness_ExternalBitsetHoldsTheLatch :
    Params.default.wf = true ∧ 2 ≠ Params.default.bitStatusReport ∧ 2 ≠ Params.default.bitCycleStart ∧
      2 ≠ Params.default.bitFeedHold ∧ 2 ≠ Params.default.bitSafetyDoor := by decide
theorem witness_StepRunsTheDecodedLine :
    let s := { live p3 with script := [.word [0x02, 0, 0, 0, 0, 0, 0, 0]] }
    s.params.wf = true ∧ s.script = .word [0x02, 0, 0, 0, 0, 0, 0, 0] :: [] ∧
      decode s.params [0x02, 0, 0, 0, 0, 0, 0, 0] = .ok .readByte := by decide
theorem witness_PlacedWordRunsNext :
    State.reset.params = Params.default ∧ decodeTableWord 8 0x15 = some .invokeEmergencyReset := by decide
theorem witness_ScriptNamesTheMover : mid.params.wf = true ∧ mid.script = .move .main :: [] := by decide
/-- Legal parameters take a step; RX_N = 1 does not. -/
theorem witness_IllegalParametersAreRefused :
    (∃ t, step mid = .next t) ∧
      step { mid with params := { p3 with rxN := 1 } } = .refused .illegalParameters := ⟨mid_step, rfl⟩
theorem witness_InvariantHoldsAtReset : p3.wf = true ∧ p3off.wf = true := by decide
theorem witness_EveryStepKeepsTheInvariant : mid.Inv ∧ ∃ t, step mid = .next t := ⟨mid_inv, mid_step⟩
theorem witness_EveryStepKeepsTheInterruptArmed :
    mid.Inv ∧ mid.Armed ∧ (∀ l, mid.script.head? = some l → ¬disarming mid.params l) ∧ ∃ t, step mid = .next t := by
  refine ⟨mid_inv, mid_armed, ?_, mid_step⟩
  intro l h
  simp only [mid, List.head?_cons, Option.some.injEq] at h
  subst h
  exact id
theorem witness_NoStepFaults : mid.Inv := mid_inv
/-- The five bytes of P3 in RX, MAIN anywhere in `read_byte` or `reset_read_buffer` whose locals are good. -/
def reading (m : MainState) : State := { live p3 with rx := five, main := m }

/-- The buffers do not depend on where MAIN is. -/
theorem reading_inv (m : MainState) (h : (reading m).localsOk) : (reading m).Inv := by
  have h0 : (reading .idle).Inv := by
    refine inv_of ?_ trivial
    unfold State.indexOk State.storageOk State.liveWritten State.flowHeld
    decide
  exact ⟨h0.1, h0.2.1, h0.2.2.1, h0.2.2.2.1, h, h0.2.2.2.2.2⟩

/-- The shared pop and `try_pop` of both buffers, Rd2, and a data byte sent. -/
theorem witness_PopsReadWrittenBytes :
    (mid.Inv ∧ ∃ u v, ringPop .rx mid = .next (some 0x30, u) ∧ ringPop .tx mid = .next (some 0x61, v)) ∧
      ((reading .idle).Inv ∧
        ok (exec (.tryPop .rx) (reading .idle)) (fun t => t.returns == [.popped (some 0x30)]) = true) ∧
      ok (exec (.tryPop .tx) mid) (fun t => t.returns == [.popped (some 0x61)]) = true ∧
      (reading (.atRd2 5)).Inv ∧
      ok (perform .irqTx mid) (fun t => t.tx.tail != mid.tx.tail && t.wireOut == [0x61]) = true :=
  ⟨⟨mid_inv, _, _, rfl, rfl⟩, ⟨reading_inv _ trivial, by decide⟩, by decide,
    reading_inv _ (by unfold State.localsOk reading; decide), by decide⟩
theorem witness_QuiescentStatesAreDrained : rest.Inv ∧ rest.Armed ∧ rest.quiescent ∧ rest.txIrqEn = false := by
  refine ⟨rest_inv, ?_⟩
  unfold State.Armed State.quiescent
  decide
/-- Equal indices, one apart at the wrap, and the two ends (95 §2.1). -/
theorem witness_OccupancyIsTheDistanceModuloN :
    (127 < 128 ∧ 127 ≤ 127 ∧ count 128 127 127 = 0) ∧ (0 < 128 ∧ 1 < 128 ∧ 0 < 1 ∧ count 128 0 1 = 127) ∧
      count 5 1 3 = 3 := by decide
theorem witness_SuccessorWrapsAtCapacity :
    (0 < 2 - 1 ∧ nextIndex 2 0 = 1) ∧ (1 = 2 - 1 ∧ nextIndex 2 1 = 0) ∧ (4 = 5 - 1 ∧ nextIndex 5 4 = 0) := by decide
theorem witness_EmptyAndFullByOccupancy :
    2 ≤ mid.cap .rx ∧ mid.indexOk .rx ∧ RingFull .rx (withRx 127 0 []) ∧ RingEmpty .rx (withRx 127 127 []) := by
  unfold State.indexOk RingFull RingEmpty
  decide
theorem witness_OccupancyIdentities :
    (count 128 126 0 < 128 - 1 ∧ count 128 (nextIndex 128 126) 0 = 127) ∧
      (0 < count 128 0 127 ∧ count 128 0 (nextIndex 128 127) = 0) := by decide
theorem witness_TryPushStoresOrRefuses :
    (mid.rx.head < mid.params.rxN ∧ ¬RingFull .rx mid) ∧ (RingFull .rx (withRx 127 0 []) ∧ 127 < Params.default.rxN) ∧
      (rest.main = .idle ∧ rest.tx.head < rest.params.txN ∧ ¬RingFull .tx rest) ∧
      RingFull .tx { live p3 with tx := full } := by
  unfold RingFull
  decide
theorem witness_TryPopTakesTheByteAtTheTail :
    (mid.tx.tail < mid.params.txN ∧ ¬RingEmpty .tx mid) ∧ (rest.main = .idle ∧ RingEmpty .rx rest) ∧
      ¬RingEmpty .rx (withRx 0 127 []) ∧ RingEmpty .tx rest := by
  unfold RingEmpty
  decide
theorem witness_OccupancyIsReportedToEitherRole : mid.indexOk .rx ∧ mid.indexOk .tx := by
  unfold State.indexOk
  decide
theorem witness_RingResetDiscardsByMovingTheTail : (withRx 2 100 []).main = .idle ∧ mid.main ≠ .idle := by decide
/-- The smallest buffer takes one byte. -/
theorem witness_CapacityIsOneLessThanStorage :
    let s := State.resetWith { p3 with txN := 2 }
    s.main = .idle ∧ 2 ≤ s.cap .tx ∧ s.indexOk .tx ∧ RingEmpty .tx s ∧ [(0x55 : Byte)].length = s.cap .tx - 1 := by
  unfold State.indexOk RingEmpty
  decide
/-- A step of the queues, a data byte sent, and the byte `read_byte` takes: taken at Rd2, held at Rd3, held while a handler
runs, returned at Rd3 without flow control, at Rd5 and at Rd6. -/
theorem witness_BuffersAreQueues :
    (mid.Inv ∧ (∃ t, perform .main mid = .next t) ∧ mid.invocable .onTxReady = true ∧ pauseDue mid = false ∧
        resumeByteDue mid = false) ∧
      ((reading (.atRd2 5)).Inv ∧
        ok (perform .main (reading (.atRd2 5))) (fun t => heldByte t.main == some 0x30) = true) ∧
      ((reading (.atRd3 5 0x30)).Inv ∧
        ok (perform .irqTx (reading (.atRd3 5 0x30))) (fun t => heldByte t.main == some 0x30) = true) ∧
      ok (perform .main { reading (.atRd3 5 0x30) with params := p3off }) (fun t => t.returns == [.data 0x30]) = true ∧
      ((reading (.atRd5 5 0x2F 5 5)).Inv ∧
        ok (perform .main (reading (.atRd5 5 0x2F 5 5))) (fun t => t.returns == [.data 0x2F]) = true) ∧
      ok (perform .main (reading (.atRd6 5 0x2F 5 1))) (fun t => t.returns == [.data 0x2F]) = true :=
  ⟨⟨mid_inv, ⟨_, rfl⟩, by decide⟩, ⟨reading_inv _ (by unfold State.localsOk reading; decide), by decide⟩,
    ⟨reading_inv _ (by unfold State.localsOk reading; decide), by decide⟩, by decide,
    ⟨reading_inv _ (by unfold State.localsOk reading; decide), by decide⟩, by decide⟩
theorem witness_ControlBytesAreSentInTheirRequestStates :
    let s (f : FlowCtrl) : State := { live p3 with flowCtrl := f }
    ((s .pauseRequested).params.xonxoffEnable = true ∧ (s .pauseRequested).flowCtrl = .pauseRequested) ∧
      (s .resumeRequested).flowCtrl = .resumeRequested ∧ (s .pauseAcknowledged).flowCtrl ≠ .pauseRequested ∧
      (live p3off).params.xonxoffEnable = false := by decide
theorem witness_DataBytesAreSentFromTheTail :
    (mid.tx.tail < mid.params.txN ∧ ¬RingEmpty .tx mid ∧ 0x61 = mid.slot .tx mid.tx.tail ∧
        mid.flowCtrl.isRequest = false) ∧
      RingEmpty .tx rest ∧ 0x62 ≠ mid.slot .tx mid.tx.tail := by
  unfold RingEmpty
  decide
/-- Each edge of the cycle, the resume request by Rd5 alone and by the whole of `read_byte`, the forced go by Rs3 alone and by
the whole of `reset_read_buffer`; and counts one apart at the low watermark. -/
theorem witness_FlowControlMovesAlongTheCycle :
    let line (m : Move) : List Line := [.move m]
    let word (b : Byte) : List Line := [.word [b, 0, 0, 0, 0, 0, 0, 0]]
    let paused (r : Ring) (m : MainState) (l : List Line) : State :=
      { live p3 with rx := r, flowCtrl := .pauseAcknowledged, main := m, script := l }
    ok (step { live p3 with rx := ⟨4, 0, []⟩, wireIn := [0x34], script := line .irqRx })
        (fun t => t.flowCtrl == .pauseRequested) = true ∧
      ok (step { live p3 with flowCtrl := .pauseRequested, script := line .irqTx })
        (fun t => t.flowCtrl == .pauseAcknowledged) = true ∧
      ok (step (paused five (.atRd5 5 0x30 5 1) (line .main))) (fun t => t.flowCtrl == .resumeRequested) = true ∧
      ok (step (paused five (.atRd5 5 0x30 5 2) (line .main))) (fun t => t.flowCtrl == .pauseAcknowledged) = true ∧
      ok (step (paused ⟨2, 0, five.storage⟩ .idle (word 0x02))) (fun t => t.flowCtrl == .resumeRequested) = true ∧
      ok (step (paused ⟨3, 0, five.storage⟩ .idle (word 0x02))) (fun t => t.flowCtrl == .pauseAcknowledged) = true ∧
      ok (step { live p3 with flowCtrl := .resumeRequested, script := line .irqTx })
        (fun t => t.flowCtrl == .resumeAcknowledged) = true ∧
      ok (step (paused five (.atRs3 5) (line .main))) (fun t => t.flowCtrl == .resumeAcknowledged) = true ∧
      ok (step (paused five .idle (word 0x03))) (fun t => t.flowCtrl == .resumeAcknowledged) = true ∧
      advancedOp (paused five (.atRd5 5 0x30 5 1) (line .main)) = some .readByte ∧
      advancedOp (paused five .idle (word 0x02)) = some .readByte ∧
      advancedOp (paused five (.atRs3 5) (line .main)) = some .resetReadBuffer := by decide
theorem witness_OneByteIsSentPerHandler :
    ok (perform .irqTx mid) (fun t => t.wireOut == [0x61]) = true ∧
      ok (perform .irqTx { mid with flowCtrl := .pauseRequested }) (fun t => t.wireOut == [0x13]) = true ∧
      ok (perform .irqTx { mid with flowCtrl := .resumeRequested }) (fun t => t.wireOut == [0x11]) = true := by decide
theorem witness_ForcedGoIsABlindWrite : State.main { live p3 with main := .atRs3 5 } = .atRs3 5 := by decide
theorem witness_ForwardedBytesArePushedOrDropped :
    (mid.rx.head < mid.params.rxN ∧ ¬RingFull .rx mid ∧ PauseCondition (afterPush .rx 0x35 mid)) ∧
      ¬PauseCondition (afterPush .rx 0x30 rest) ∧ RingFull .rx (withRx 127 0 []) := by
  unfold RingFull PauseCondition
  decide
theorem witness_FlagsAreSetByCommandAndClearedByTheConsumer :
    ok (perform .irqRx { live p3 with wireIn := [0x21] }) (fun t => t.rtPending.feedHold) = true ∧
      ok (perform .main { live p3 with rtPending := ⟨true, true, true, true⟩, main := .atRt ⟨false, false, true, false⟩ })
        (fun t => t.rtPending == ⟨true, true, false, true⟩) = true := by decide
theorem witness_TestAndClearAnswersAndClearsTheMask : rest.main = .idle := by decide
theorem witness_InitMakesTheInterruptsLive : State.reset.main = .idle ∧ State.reset.uart = none := by decide
theorem witness_WriteByteQueuesAbortsOrWaits :
    (rest.main = .idle ∧ rest.tx.head < rest.params.txN ∧ ¬RingFull .tx rest) ∧
      RingFull .tx { live p3 with tx := full } ∧ State.abort { live p3 with tx := full, abort := true } = true ∧
      State.abort { live p3 with tx := full } = false := by
  unfold RingFull
  decide
theorem witness_AbortedOnlyFromTheWaitLoop :
    ok (perform .main { live p3 with tx := full, main := .atW3 0x64 0 0, abort := true })
      (fun t => t.returns == [.aborted]) = true := by decide
theorem witness_NoDataOnlyFromAnEmptyBuffer :
    ok (perform .main { rest with main := .atRd1 }) (fun t => t.returns == [.noData]) = true ∧ RingEmpty .rx rest := by
  unfold RingEmpty
  decide
theorem witness_WaitingWriterTurnsOrAborts :
    let s := { live p3 with tx := full, main := .atW2 0x64 0 none }
    s.main = .atW2 0x64 0 none ∧ 0 = s.tx.tail ∧ s.abort = false ∧ State.abort { s with abort := true } = true := by
  decide
theorem witness_WriterPastTheTestCompletes : mid.Inv ∧ mid.main = .atW4 0x63 3 0 := ⟨mid_inv, rfl⟩
theorem witness_ReadBytePopsAndRequestsResume :
    (rest.main = .idle ∧ rest.rx.tail < rest.params.rxN ∧ RingEmpty .rx rest) ∧
      (let s := { withRx 30 10 [] with flowCtrl := .pauseAcknowledged }
       ¬RingEmpty .rx s ∧ s.params.xonxoffEnable = true ∧ (afterPop .rx s).occupancy .rx < s.params.lowWatermark) ∧
      (let s := { withRx 31 10 [] with flowCtrl := .pauseAcknowledged }
       ¬RingEmpty .rx s ∧ ¬(afterPop .rx s).occupancy .rx < s.params.lowWatermark) := by
  unfold RingEmpty
  decide
theorem witness_ResetReadBufferDiscardsAndForcesGo :
    rest.main = .idle ∧ ∃ t, exec .resetReadBuffer rest = .next t := ⟨rfl, ⟨_, rfl⟩⟩
/-- Each command, and a forwarded byte that is pushed, pushed with a pause request, or dropped. -/
theorem witness_OnRxReadyConsumesOneByte :
    let s (b : Byte) (r : Ring) : State := { live p3 with rx := r, wireIn := [b] }
    (s 0x30 five).params.wf = true ∧ (s 0x30 five).uart.isSome = true ∧ five.head < p3.rxN ∧
      NoCommand p3 0x30 ∧ PauseCondition (afterPush .rx 0x30 (s 0x30 five)) ∧
      ¬PauseCondition (afterPush .rx 0x30 (s 0x30 ⟨0, 0, []⟩)) ∧ RingFull .rx (s 0x30 ⟨7, 0, []⟩) ∧
      ([0x3F, 0x7E, 0x21, 0x40, 0x18] : List Byte) = p3.commands := by
  unfold NoCommand PauseCondition RingFull
  decide
theorem witness_OverflowDropsInSilence :
    let s := { withRx 127 0 [] with wireIn := [0x47] }
    s.uart.isSome = true ∧ s.wireIn = 0x47 :: [] ∧ RingFull .rx s ∧ NoCommand s.params 0x47 := by
  unfold RingFull NoCommand
  decide
theorem witness_OnTxReadySendsOneByte :
    (mid.uart.isSome = true ∧ mid.txIrqEn = true ∧ mid.txReady = true ∧ mid.tx.tail < mid.params.txN) ∧
      mid.params.xonxoffEnable = true ∧ (mid.flowCtrl.isRequest = false ∧ ¬RingEmpty .tx mid) ∧
      RingEmpty .tx (withTx 2 2 []) ∧ State.flowCtrl { mid with flowCtrl := .pauseRequested } = .pauseRequested ∧
      State.flowCtrl { mid with flowCtrl := .resumeRequested } = .resumeRequested := by
  unfold RingEmpty
  decide
theorem witness_OutwardCallsHaveTheirEffects :
    State.wireIn { live p3 with wireIn := [0x41] } = 0x41 :: [] ∧ (live p3).wireIn = [] := by decide
theorem witness_EnvironmentMovesAreItsInputsOnly : (live p3).uart.isSome = true ∧ State.reset.uart = none := by decide
theorem witness_HandlersRunOnlyWhenInvocable :
    State.reset.uart = none ∧ (live p3).wireIn = [] ∧ rest.txIrqEn = false ∧
      State.txReady { mid with txReady := false } = false := by decide
theorem witness_SecondMainOperationIsRefused : mid.main ≠ .idle := by decide
theorem witness_EveryFieldHasItsWriters :
    (∃ t, perform .main mid = .next t) ∧ (∃ t, perform (.start .readByte) rest = .next t) ∧
      (∃ t, perform .irqRx { mid with wireIn := [0x21] } = .next t) ∧ (∃ t, perform .irqTx mid = .next t) ∧
      (∃ t, perform (.envRx 0x41) mid = .next t) := ⟨⟨_, rfl⟩, ⟨_, rfl⟩, ⟨_, rfl⟩, ⟨_, rfl⟩, ⟨_, rfl⟩⟩
theorem witness_MicroStepsFollowTheirOrder :
    mid.main.mstep = some .w4 ∧ ∃ t, mainStep mid = .next t := ⟨rfl, ⟨_, rfl⟩⟩
/-- Each micro-step; W2 with a free slot and without, W3 with `abort` and without. -/
theorem witness_WriteByteTakesItsMicroSteps :
    let s (m : MainState) : State := { live p3 with tx := full, main := m }
    (s (.atW1 0x64)).main = .atW1 0x64 ∧
      ((s (.atW2 0x64 0 none)).main = .atW2 0x64 0 none ∧ 0 = (s (.atW2 0x64 0 none)).tx.tail) ∧
      ((s (.atW2 0x64 3 none)).main = .atW2 0x64 3 none ∧ 3 ≠ (s (.atW2 0x64 3 none)).tx.tail) ∧
      ((s (.atW3 0x64 0 0)).main = .atW3 0x64 0 0 ∧ (s (.atW3 0x64 0 0)).abort = false ∧
        State.abort { s (.atW3 0x64 0 0) with abort := true } = true) ∧
      (mid.main = .atW4 0x63 3 0 ∧ mid.tx.head < mid.params.txN) ∧
      (s (.atW5 0x64 0 1)).main = .atW5 0x64 0 1 ∧ (s (.atW6 0x64 0 1)).main = .atW6 0x64 0 1 := by decide
/-- Each micro-step; Rd1 empty and not, Rd3 with flow control and without, Rd5 one below the low watermark, at it, and below it
in another state. -/
theorem witness_ReadByteTakesItsMicroSteps :
    (State.main { rest with main := .atRd1 } = .atRd1 ∧ rest.rx.head = rest.rx.tail) ∧
      ((reading .atRd1).main = .atRd1 ∧ (reading .atRd1).rx.head ≠ (reading .atRd1).rx.tail) ∧
      ((reading (.atRd2 5)).main = .atRd2 5 ∧ (reading (.atRd2 5)).rx.tail < p3.rxN) ∧
      ((reading (.atRd3 5 0x30)).main = .atRd3 5 0x30 ∧ p3.xonxoffEnable = true ∧ p3off.xonxoffEnable = false) ∧
      (reading (.atRd4 5 0x30)).main = .atRd4 5 0x30 ∧
      ((reading (.atRd5 5 0x30 5 1)).main = .atRd5 5 0x30 5 1 ∧ 1 < p3.lowWatermark ∧ ¬2 < p3.lowWatermark ∧
        (reading (.atRd5 5 0x30 5 1)).flowCtrl ≠ .pauseAcknowledged ∧
        State.flowCtrl { reading (.atRd5 5 0x30 5 1) with flowCtrl := .pauseAcknowledged } = .pauseAcknowledged) ∧
      (reading (.atRd6 5 0x30 5 1)).main = .atRd6 5 0x30 5 1 := by decide
theorem witness_ResetReadBufferTakesItsMicroSteps :
    (reading .atRs1).main = .atRs1 ∧ ((reading (.atRs2 4)).main = .atRs2 4 ∧ p3.xonxoffEnable = true) ∧
      (State.main { reading (.atRs2 4) with params := p3off } = .atRs2 4 ∧ p3off.xonxoffEnable = false) ∧
      (reading (.atRs3 5)).main = .atRs3 5 := by decide

end Sys2Proof.Tests
end

section
/-!
PROOFS. The latch in an external bitset (R10, R81, R142).
-/

namespace Sys2Proof.Proofs.ExternalBitset
open Sys2Proof Sys2Proof.Machine

/-- A flag placed at the position `n` of a word is read at `n` and nowhere else. -/
theorem testBit_flag_at (c : Bool) (n k : Nat) :
    (if c then 2 ^ n else 0).testBit k = (c && decide (n = k)) := by
  cases c
  case false => simp
  case true => simp [Nat.testBit_two_pow]

/-- What any bit of the latch's word holds: the flags whose position it is. -/
theorem testBit_rtBitset (p : Params) (f : RtFlags) (k : Nat) :
    (rtBitset p f).testBit k =
      (f.statusReport && decide (p.bitStatusReport = k) || f.cycleStart && decide (p.bitCycleStart = k) ||
        f.feedHold && decide (p.bitFeedHold = k) || f.safetyDoor && decide (p.bitSafetyDoor = k)) := by
  simp only [rtBitset, Nat.testBit_or, testBit_flag_at]

/-- A bit at none of the four positions is clear in the latch's word. -/
theorem testBit_rtBitset_of_ne {p : Params} {k : Nat} (f : RtFlags) (hsr : k ≠ p.bitStatusReport)
    (hcs : k ≠ p.bitCycleStart) (hfh : k ≠ p.bitFeedHold) (hsd : k ≠ p.bitSafetyDoor) :
    (rtBitset p f).testBit k = false := by
  simp [testBit_rtBitset, hsr.symm, hcs.symm, hfh.symm, hsd.symm]

/-- A bit of the external word is set by the word's other owners or by the latch. -/
theorem testBit_rtExternal (p : Params) (others : Nat) (f : RtFlags) (k : Nat) :
    (rtExternal p others f).testBit k = (others.testBit k || (rtBitset p f).testBit k) :=
  Nat.testBit_or ..

/-- Legal parameters give the four flags four positions (R234). -/
theorem positions_nodup_of_wf {p : Params} (h : p.wf = true) :
    [p.bitStatusReport, p.bitCycleStart, p.bitFeedHold, p.bitSafetyDoor].Nodup := by
  rw [Params.wf, Bool.and_eq_true] at h
  exact of_decide_eq_true h.2

/-- With distinct positions, each flag is read back at its own. -/
theorem testBit_rtBitset_own {p : Params} (f : RtFlags)
    (h : [p.bitStatusReport, p.bitCycleStart, p.bitFeedHold, p.bitSafetyDoor].Nodup) :
    (rtBitset p f).testBit p.bitStatusReport = f.statusReport ∧
      (rtBitset p f).testBit p.bitCycleStart = f.cycleStart ∧
      (rtBitset p f).testBit p.bitFeedHold = f.feedHold ∧
      (rtBitset p f).testBit p.bitSafetyDoor = f.safetyDoor := by
  obtain ⟨⟨sr_cs, sr_fh, sr_sd⟩, ⟨cs_fh, cs_sd⟩, fh_sd⟩ :
      (p.bitStatusReport ≠ p.bitCycleStart ∧ p.bitStatusReport ≠ p.bitFeedHold ∧
        p.bitStatusReport ≠ p.bitSafetyDoor) ∧
      (p.bitCycleStart ≠ p.bitFeedHold ∧ p.bitCycleStart ≠ p.bitSafetyDoor) ∧
      p.bitFeedHold ≠ p.bitSafetyDoor := by
    simpa using h
  refine ⟨?statusReport, ?cycleStart, ?feedHold, ?safetyDoor⟩
  case statusReport => simp [testBit_rtBitset, sr_cs.symm, sr_fh.symm, sr_sd.symm]
  case cycleStart => simp [testBit_rtBitset, sr_cs, cs_fh.symm, cs_sd.symm]
  case feedHold => simp [testBit_rtBitset, sr_fh, cs_fh, fh_sd.symm]
  case safetyDoor => simp [testBit_rtBitset, sr_sd, cs_sd, fh_sd]

/-- Settles O6: the positions of legal parameters are distinct, so each flag is alone at its own, and a bit at none of
them is clear in the latch's word. -/
theorem externalBitsetHoldsTheLatch : Obligations.ExternalBitsetHoldsTheLatch := by
  intro p others f hwf
  obtain ⟨statusReport, cycleStart, feedHold, safetyDoor⟩ := testBit_rtBitset_own f (positions_nodup_of_wf hwf)
  refine ⟨statusReport, cycleStart, feedHold, safetyDoor, fun k hsr hcs hfh hsd => ?_⟩
  rw [testBit_rtExternal, testBit_rtBitset_of_ne f hsr hcs hfh hsd, Bool.or_false]

end Sys2Proof.Proofs.ExternalBitset
end

section
/-!
PROOFS. MAIN's micro-steps, each branch once: what a micro-step that goes on can do, and the order they take (R33).
-/

namespace Sys2Proof.Proofs.MicroSteps
open Sys2Proof Sys2Proof.Machine Sys2Proof.Claims

/-- `MicroStepTaken s t`: from `s` MAIN can take a micro-step to `t`. One constructor per branch of R141, R150, R152,
R157 and R162, each with its guard and its next state. -/
inductive MicroStepTaken (s : State) : State → Prop where
  | idle (hm : s.main = .idle) : MicroStepTaken s s
  | init {baud} (hm : s.main = .atInit baud) : MicroStepTaken s (configureUart baud s).finish
  | w1 {b} (hm : s.main = .atW1 b) : MicroStepTaken s (s.at (.atW2 b (s.next .tx s.tx.head) none))
  | w2Space {b nh t₀} (hm : s.main = .atW2 b nh t₀) (hs : nh ≠ s.tx.tail) :
      MicroStepTaken s (s.at (.atW4 b nh s.tx.tail))
  | w2Full {b nh t₀} (hm : s.main = .atW2 b nh t₀) (hf : nh = s.tx.tail) :
      MicroStepTaken s (s.at (.atW3 b nh s.tx.tail))
  | w3Abort {b nh t₀} (hm : s.main = .atW3 b nh t₀) (ha : s.abort = true) : MicroStepTaken s (s.finishWith .aborted)
  | w3Again {b nh t₀} (hm : s.main = .atW3 b nh t₀) (ha : s.abort = false) :
      MicroStepTaken s (s.at (.atW2 b nh (some t₀)))
  | w4 {b nh t₀} (hm : s.main = .atW4 b nh t₀) (hi : s.tx.head < s.params.txN) :
      MicroStepTaken s ((s.setRing .tx { s.tx with storage := s.tx.storage.write s.tx.head b }).at (.atW5 b nh t₀))
  | w5 {b nh t₀} (hm : s.main = .atW5 b nh t₀) : MicroStepTaken s ((s.setHead .tx nh).at (.atW6 b nh t₀))
  | w6 {b nh t₀} (hm : s.main = .atW6 b nh t₀) : MicroStepTaken s ((enableTx s).finishWith .done)
  | rd1Empty (hm : s.main = .atRd1) (he : s.rx.head = s.rx.tail) : MicroStepTaken s (s.finishWith .noData)
  | rd1Data (hm : s.main = .atRd1) (he : s.rx.head ≠ s.rx.tail) : MicroStepTaken s (s.at (.atRd2 s.rx.head))
  | rd2 {h} (hm : s.main = .atRd2 h) (hi : s.rx.tail < s.params.rxN) :
      MicroStepTaken s (s.at (.atRd3 h (s.slot .rx s.rx.tail)))
  | rd3Flow {h d} (hm : s.main = .atRd3 h d) (hx : s.params.xonxoffEnable = true) :
      MicroStepTaken s ((s.setTail .rx (s.next .rx s.rx.tail)).at (.atRd4 h d))
  | rd3End {h d} (hm : s.main = .atRd3 h d) (hx : s.params.xonxoffEnable = false) :
      MicroStepTaken s ((s.setTail .rx (s.next .rx s.rx.tail)).finishWith (.data d))
  | rd4 {h d} (hm : s.main = .atRd4 h d) : MicroStepTaken s (s.at (.atRd5 h d s.rx.head (s.occupancy .rx)))
  | rd5Request {h d h₂ c} (hm : s.main = .atRd5 h d h₂ c) (hc : c < s.params.lowWatermark)
      (hf : s.flowCtrl = .pauseAcknowledged) :
      MicroStepTaken s (State.at { s with flowCtrl := .resumeRequested } (.atRd6 h d h₂ c))
  | rd5End {h d h₂ c} (hm : s.main = .atRd5 h d h₂ c) (hr : resumeDue c s = false) :
      MicroStepTaken s (s.finishWith (.data d))
  | rd6 {h d h₂ c} (hm : s.main = .atRd6 h d h₂ c) : MicroStepTaken s ((enableTx s).finishWith (.data d))
  | rs1 (hm : s.main = .atRs1) : MicroStepTaken s (s.at (.atRs2 s.rx.head))
  | rs2Flow {h} (hm : s.main = .atRs2 h) (hx : s.params.xonxoffEnable = true) :
      MicroStepTaken s ((s.setTail .rx h).at (.atRs3 h))
  | rs2End {h} (hm : s.main = .atRs2 h) (hx : s.params.xonxoffEnable = false) :
      MicroStepTaken s (s.setTail .rx h).finish
  | rs3 {h} (hm : s.main = .atRs3 h) : MicroStepTaken s (State.finish { s with flowCtrl := .resumeAcknowledged })
  | rt {m} (hm : s.main = .atRt m) : MicroStepTaken s ((rtCleared m s).finishWith (.flags (rtTested m s)))

/-- Everything a micro-step of MAIN can do when it goes on. -/
theorem microStepTaken_of_mainStep {s t : State} (h : mainStep s = .next t) : MicroStepTaken s t := by
  unfold mainStep at h
  cases hm : s.main <;> simp only [hm] at h
  case idle => cases h; exact .idle hm
  case atInit => cases h; exact .init hm
  case atW1 => cases h; exact .w1 hm
  case atW2 =>
    unfold stepW2 at h
    split at h <;> cases h
    · exact .w2Space hm ‹_›
    · exact .w2Full hm (not_not.mp ‹_›)
  case atW3 =>
    unfold stepW3 at h
    split at h <;> cases h
    · exact .w3Abort hm ‹_›
    · exact .w3Again hm (Bool.eq_false_of_not_eq_true ‹_›)
  case atW4 =>
    obtain ⟨u, hu, hk⟩ := andThen_eq_next.mp h
    unfold memWrite at hu
    split at hu <;> cases hu
    cases hk
    exact .w4 hm ‹_›
  case atW5 => cases h; exact .w5 hm
  case atW6 => cases h; exact .w6 hm
  case atRd1 =>
    unfold stepRd1 at h
    split at h <;> cases h
    · exact .rd1Empty hm ‹_›
    · exact .rd1Data hm ‹_›
  case atRd2 =>
    obtain ⟨d, hd, hk⟩ := andThen_eq_next.mp h
    unfold memRead at hd
    split at hd <;> cases hd
    cases hk
    exact .rd2 hm ‹_›
  case atRd3 =>
    unfold stepRd3 at h
    split at h <;> cases h
    · exact .rd3Flow hm ‹_›
    · exact .rd3End hm (Bool.eq_false_of_not_eq_true ‹_›)
  case atRd4 => cases h; exact .rd4 hm
  case atRd5 c =>
    unfold stepRd5 at h
    split at h <;> cases h
    case isTrue hr =>
      rw [resumeDue, Bool.and_eq_true, decide_eq_true_eq, decide_eq_true_eq] at hr
      exact .rd5Request hm hr.1 hr.2
    case isFalse hr => exact .rd5End hm (Bool.eq_false_of_not_eq_true hr)
  case atRd6 => cases h; exact .rd6 hm
  case atRs1 => cases h; exact .rs1 hm
  case atRs2 =>
    unfold stepRs2 at h
    split at h <;> cases h
    · exact .rs2Flow hm ‹_›
    · exact .rs2End hm (Bool.eq_false_of_not_eq_true ‹_›)
  case atRs3 => cases h; exact .rs3 hm
  case atRt => cases h; exact .rt hm

/-- Settles O56: each branch of a micro-step ends at one of the listed successors, either with the operation returned
or in the same operation. -/
theorem microStepsFollowTheirOrder : Obligations.MicroStepsFollowTheirOrder := by
  intro s t l hl h
  cases microStepTaken_of_mainStep h with
  | idle hm => simp [hm, MainState.mstep] at hl
  | init hm | w3Abort hm _ | w6 hm | rd1Empty hm _ | rd3End hm _ | rd5End hm _ | rd6 hm | rs2End hm _ | rs3 hm | rt hm =>
    -- the operation returns
    obtain rfl : _ = l := by simpa only [hm, MainState.mstep, Option.some.injEq] using hl
    exact ⟨by simp [successors, MainState.mstep], .inl rfl⟩
  | w1 hm | w2Space hm _ | w2Full hm _ | w3Again hm _ | w4 hm _ | w5 hm | rd1Data hm _ | rd2 hm _ | rd3Flow hm _
  | rd4 hm | rd5Request hm _ _ | rs1 hm | rs2Flow hm _ =>
    -- the operation goes on
    obtain rfl : _ = l := by simpa only [hm, MainState.mstep, Option.some.injEq] using hl
    exact ⟨by simp [successors, MainState.mstep], .inr (by rw [hm]; rfl)⟩

end Sys2Proof.Proofs.MicroSteps
end

section
/-!
PROOFS. The invariant (R37, R30, R99, R154): it holds at reset, every step keeps it, and so every
pop reads a written byte.
-/

namespace Sys2Proof.Proofs.Invariant
open Sys2Proof Sys2Proof.Machine Sys2Proof.Proofs.MicroSteps

/-! ## One ring -/

/-- What the invariant says of one ring of capacity `n`: indices in range, canonical storage, live bytes written. -/
structure RingOk (n : Nat) (r : Ring) : Prop where
  head_lt : r.head < n
  tail_lt : r.tail < n
  wf : r.storage.wf = true
  below : r.storage.below n = true
  written : ∀ k, k < count n r.head r.tail → (r.storage.lookup ((r.tail + k) % n)).isSome = true

variable {n : Nat} {r : Ring}

theorem ringOk_reset (hn : 0 < n) : RingOk n Ring.reset :=
  ⟨hn, hn, rfl, rfl, fun k hk => by simp [Ring.reset] at hk⟩

/-- The oldest byte of a ring that is not empty has been written. -/
theorem RingOk.lookup_tail (h : RingOk n r) (hne : r.head ≠ r.tail) (buf : Buffer) :
    r.storage.lookup r.tail = some (Memory.load buf r.tail r.storage) := by
  have hw := h.written 0 (count_pos h.head_lt h.tail_lt hne)
  rw [Nat.add_zero, Nat.mod_eq_of_lt h.tail_lt] at hw
  obtain ⟨d, hd⟩ := Option.isSome_iff_exists.mp hw
  rw [hd, Memory.load_of_lookup hd]

/-- A store at the head touches no live byte. -/
theorem RingOk.store (h : RingOk n r) (b : Byte) : RingOk n { r with storage := r.storage.write r.head b } where
  head_lt := h.head_lt
  tail_lt := h.tail_lt
  wf := Memory.wf_write _ _ h.wf
  below := Memory.below_write _ h.head_lt h.below
  written k hk := by
    have hkn : k < n := hk.trans (count_lt _ _ (Nat.zero_lt_of_lt h.head_lt))
    rw [Memory.lookup_write_other _ _ (slot_ne_head h.head_lt h.tail_lt hkn hk.ne)]
    exact h.written k hk

/-- Moving the head on by one, short of the tail, counts one byte more. -/
theorem count_nextIndex_head {h t : Nat} (hh : h < n) (ht : t < n) (hs : nextIndex n h ≠ t) :
    count n (nextIndex n h) t = count n h t + 1 := by
  have hlt := nextIndex_lt h (Nat.zero_lt_of_lt hh)
  rw [count_eq hlt ht, count_eq hh ht]
  rw [nextIndex_eq hh] at hs hlt ⊢
  (repeat' split at *) <;> omega

theorem nextIndex_ne_self {i : Nat} (hn : 2 ≤ n) (hi : i < n) : nextIndex n i ≠ i := by
  rw [nextIndex_eq hi]
  split <;> omega

/-- Two indices with one successor are one index. -/
theorem nextIndex_ne_nextIndex {i j : Nat} (hi : i < n) (hj : j < n) (hne : i ≠ j) : nextIndex n i ≠ nextIndex n j := by
  rw [nextIndex_eq hi, nextIndex_eq hj]
  (repeat' split) <;> omega

/-- Publishing a byte stored at the head makes it live. -/
theorem RingOk.publish (h : RingOk n r) (hs : nextIndex n r.head ≠ r.tail)
    (hw : (r.storage.lookup r.head).isSome = true) : RingOk n { r with head := nextIndex n r.head } where
  head_lt := nextIndex_lt _ (Nat.zero_lt_of_lt h.head_lt)
  tail_lt := h.tail_lt
  wf := h.wf
  below := h.below
  written k hk := by
    dsimp only at hk
    rw [count_nextIndex_head h.head_lt h.tail_lt hs] at hk
    rcases Nat.lt_succ_iff_lt_or_eq.mp hk with hlt | rfl
    · exact h.written k hlt
    · rwa [slot_after_live h.head_lt h.tail_lt]

/-- An accepted push is a store and a publish. -/
theorem RingOk.pushed (h : RingOk n r) (hs : nextIndex n r.head ≠ r.tail) (b : Byte) : RingOk n (r.pushed n b) :=
  (h.store b).publish hs (by simp)

/-- A discard up to an index among the live bytes leaves the younger ones. -/
theorem RingOk.discard (h : RingOk n r) {i : Nat} (hi : i < n) (hc : count n i r.tail ≤ count n r.head r.tail) :
    RingOk n { r with tail := i } where
  head_lt := h.head_lt
  tail_lt := hi
  wf := h.wf
  below := h.below
  written k hk := by
    dsimp only at hk
    rw [count_split h.head_lt h.tail_lt hi hc] at hk
    have e : (i + k) % n = (r.tail + (count n i r.tail + k)) % n := by
      rw [← Nat.add_assoc, ← Nat.mod_add_mod (r.tail + _), slot_after_live hi h.tail_lt]
    dsimp only
    rw [e]
    exact h.written _ (by omega)

/-- A pop discards the oldest byte. -/
theorem RingOk.popped (h : RingOk n r) (hn : 2 ≤ n) (hne : r.head ≠ r.tail) : RingOk n (r.popped n) := by
  refine h.discard (nextIndex_lt _ (by omega)) ?_
  rw [count_nextIndex_head h.tail_lt h.tail_lt (nextIndex_ne_self hn h.tail_lt), count_self]
  exact count_pos h.head_lt h.tail_lt hne

/-- A reset discards every byte. -/
theorem RingOk.emptied (h : RingOk n r) : RingOk n { r with tail := r.head } :=
  h.discard h.head_lt le_rfl

/-! ## The parts of the invariant -/

/-- The invariant without MAIN's locals. -/
structure BlockOk (s : State) : Prop where
  params_wf : s.params.wf = true
  rings : ∀ buf, RingOk (s.cap buf) (s.ring buf)
  flow : s.flowHeld

variable {s t u : State} {buf : Buffer}

theorem inv_iff : s.Inv ↔ BlockOk s ∧ s.localsOk := by
  constructor
  · rintro ⟨hp, hi, hs, hw, hl, hf⟩
    exact ⟨⟨hp, fun b => ⟨(hi b).1, (hi b).2, (hs b).1, (hs b).2, hw b⟩, hf⟩, hl⟩
  · rintro ⟨⟨hp, hr, hf⟩, hl⟩
    exact ⟨hp, fun b => ⟨(hr b).head_lt, (hr b).tail_lt⟩, fun b => ⟨(hr b).wf, (hr b).below⟩,
      fun b => (hr b).written, hl, hf⟩

/-- Legal parameters have room for one byte in each buffer (R6). -/
theorem two_le_cap (h : s.params.wf = true) (buf : Buffer) : 2 ≤ s.cap buf := by
  simp only [Params.wf, Bool.and_eq_true] at h
  obtain ⟨⟨⟨⟨hc, -⟩, -⟩, -⟩, -⟩ := h
  rw [Params.capacitiesOk, Bool.and_eq_true, decide_eq_true_eq, decide_eq_true_eq] at hc
  cases buf
  · exact hc.1
  · exact hc.2

theorem BlockOk.of_frame (h : BlockOk s) (hp : t.params = s.params) (hrx : t.rx = s.rx) (htx : t.tx = s.tx)
    (hf : s.flowHeld → t.flowHeld) : BlockOk t where
  params_wf := hp ▸ h.params_wf
  rings b := by
    cases b
    · simpa [hp, hrx] using h.rings .rx
    · simpa [hp, htx] using h.rings .tx
  flow := hf h.flow

theorem BlockOk.setRing (h : BlockOk s) {r : Ring} (hr : RingOk (s.cap buf) r) : BlockOk (s.setRing buf r) where
  params_wf := by simpa using h.params_wf
  rings b := by
    by_cases hb : b = buf
    · subst hb
      simpa using hr
    · simpa [State.ring_setRing_ne s r hb] using h.rings b
  flow := by simpa [State.flowHeld] using h.flow

/-- MAIN's locals do not enter the rest of the invariant. -/
theorem BlockOk.at (h : BlockOk s) (m : MainState) : BlockOk (s.at m) :=
  h.of_frame rfl rfl rfl id

/-! ## MAIN's locals -/

theorem localsOk_iff_at {m : MainState} (hm : s.main = m) : s.localsOk ↔ (s.at m).localsOk := by
  subst hm
  exact Iff.rfl

theorem localsOk_of_idle (hm : s.main = .idle) : s.localsOk :=
  (localsOk_iff_at hm).mpr trivial

/-- What the locals speak of: the parameters, the buffers and MAIN. -/
theorem localsOk_of_frame (hl : s.localsOk) (hp : t.params = s.params) (hrx : t.rx = s.rx) (htx : t.tx = s.tx)
    (hm : t.main = s.main) : t.localsOk := by
  unfold State.localsOk State.next State.occupancy at hl ⊢
  simpa only [State.cap_rx, State.cap_tx, State.ring_rx, hp, hrx, htx, hm] using hl

/-- A handler's push into RX: a byte MAIN has seen stays there, and its counts stay lower bounds (R97, R99, R101). -/
theorem localsOk_push_rx (hr : RingOk s.params.rxN s.rx) (hs : nextIndex s.params.rxN s.rx.head ≠ s.rx.tail)
    (b : Byte) {m : MainState} (hl : (s.at m).localsOk) :
    ((s.setRing .rx (s.rx.pushed s.params.rxN b)).at m).localsOk := by
  have hocc : (s.setRing .rx (s.rx.pushed s.params.rxN b)).occupancy .rx = s.occupancy .rx + 1 :=
    count_nextIndex_head hr.head_lt hr.tail_lt hs
  cases m
  case atRd2 => exact hs
  case atRd3 h d =>
    obtain ⟨hne, hd⟩ : s.rx.head ≠ s.rx.tail ∧ s.rx.storage.lookup s.rx.tail = some d := hl
    exact And.intro hs ((Memory.lookup_write_other _ b hne.symm).trans hd)
  case atRd5 h d h₂ c =>
    have hc : c ≤ s.occupancy .rx := hl
    exact hc.trans (hocc ▸ Nat.le_succ _)
  case atRs2 h =>
    obtain ⟨hh, hc⟩ : h < s.cap .rx ∧ count (s.cap .rx) h s.rx.tail ≤ s.occupancy .rx := hl
    exact And.intro hh (hc.trans (hocc ▸ Nat.le_succ _))
  all_goals exact hl

/-- A handler's move of the TX tail, short of the slot after the head: a writer past its test keeps its room (R154). -/
theorem localsOk_setTail_tx {i : Nat} (hs : s.next .tx s.tx.head ≠ i) {m : MainState} (hl : (s.at m).localsOk) :
    ((s.setTail .tx i).at m).localsOk := by
  cases m
  case atW4 b nh t =>
    obtain ⟨hnh, -⟩ : nh = s.next .tx s.tx.head ∧ nh ≠ s.tx.tail := hl
    exact And.intro hnh (hnh ▸ hs)
  case atW5 b nh t =>
    obtain ⟨hnh, -, hd⟩ : nh = s.next .tx s.tx.head ∧ nh ≠ s.tx.tail ∧ s.tx.storage.lookup s.tx.head = some b := hl
    exact And.intro hnh (And.intro (hnh ▸ hs) hd)
  all_goals exact hl

/-! ## Keeping the invariant -/

/-- From `s` to `t` the invariant and the parameters are kept. -/
def Keeps (s t : State) : Prop :=
  s.Inv → t.Inv ∧ t.params = s.params

/-- Wherever an outcome goes on, the invariant and the parameters are kept. -/
def OutKeeps (s : State) (x : Out) : Prop :=
  ∀ t, x = .next t → Keeps s t

theorem Keeps.refl (s : State) : Keeps s s :=
  fun h => ⟨h, rfl⟩

theorem Keeps.trans (h₁ : Keeps s t) (h₂ : Keeps t u) : Keeps s u := fun h =>
  have ⟨ht, hpt⟩ := h₁ h
  have ⟨hu, hpu⟩ := h₂ ht
  ⟨hu, hpu.trans hpt⟩

theorem outKeeps_next (h : Keeps s t) : OutKeeps s (.next t) := by
  rintro _ ⟨⟩
  exact h

theorem Keeps.outKeeps {x : Out} (h : Keeps s t) (hx : OutKeeps t x) : OutKeeps s x :=
  fun u hu => h.trans (hx u hu)

theorem OutKeeps.andThen {x : Out} {k : State → Out} (hx : OutKeeps s x) (hk : ∀ u, OutKeeps u (k u)) :
    OutKeeps s (andThen x k) := by
  intro t h
  obtain ⟨u, hu, ht⟩ := andThen_eq_next.mp h
  exact (hx u hu).trans (hk u t ht)

/-- A step that leaves the buffers and MAIN alone and holds the flow-control state where it must be held. -/
theorem keeps_of_frame (hp : t.params = s.params) (hrx : t.rx = s.rx) (htx : t.tx = s.tx) (hm : t.main = s.main)
    (hf : s.flowHeld → t.flowHeld) : Keeps s t := by
  intro h
  obtain ⟨hb, hl⟩ := inv_iff.mp h
  exact ⟨inv_iff.mpr ⟨hb.of_frame hp hrx htx hf, localsOk_of_frame hl hp hrx htx hm⟩, hp⟩

/-- With flow control built in, any value of the flow-control state is legal. -/
theorem flowHeld_of_enabled (hx : s.params.xonxoffEnable = true) : s.flowHeld :=
  fun h => absurd (hx.symm.trans h) (by decide)

/-- MAIN moves and nothing else does. -/
theorem keeps_at {m : MainState} (hl : s.Inv → (s.at m).localsOk) : Keeps s (s.at m) :=
  fun h => ⟨inv_iff.mpr ⟨(inv_iff.mp h).1.at m, hl h⟩, rfl⟩

theorem keeps_finish : Keeps s s.finish :=
  keeps_at (m := .idle) fun _ => trivial

theorem keeps_finishWith (r : Result) : Keeps s (s.finishWith r) :=
  Keeps.trans (t := s.record r) (keeps_of_frame rfl rfl rfl rfl id) keeps_finish

/-- A ring changes and MAIN moves on. -/
theorem keeps_setRing_at {r : Ring} {m : MainState}
    (hr : BlockOk s → s.localsOk → RingOk (s.cap buf) r ∧ ((s.setRing buf r).at m).localsOk) :
    Keeps s ((s.setRing buf r).at m) := by
  intro h
  obtain ⟨hb, hl⟩ := inv_iff.mp h
  obtain ⟨hr, hl⟩ := hr hb hl
  exact ⟨inv_iff.mpr ⟨(hb.setRing hr).at m, hl⟩, State.setRing_params s buf r⟩

/-! ## The ring primitives -/

/-- A push into RX, at any time, or into TX while MAIN is idle. -/
theorem keeps_pushed (hc : buf = .rx ∨ s.main = .idle) (hf : s.isFull buf = false) (b : Byte) :
    Keeps s (s.setRing buf ((s.ring buf).pushed (s.cap buf) b)) := by
  intro h
  obtain ⟨hb, hl⟩ := inv_iff.mp h
  have hs : nextIndex (s.cap buf) (s.ring buf).head ≠ (s.ring buf).tail := by
    simpa [State.isFull, State.next] using hf
  refine ⟨inv_iff.mpr ⟨hb.setRing ((hb.rings buf).pushed hs b), ?_⟩, State.setRing_params ..⟩
  rcases hc with rfl | hm
  · exact localsOk_push_rx (m := s.main) (hb.rings .rx) hs b hl
  · exact localsOk_of_idle (by simpa using hm)

/-- A pop from TX, at any time, or from RX while MAIN is idle. -/
theorem keeps_popped (hc : buf = .tx ∨ s.main = .idle) (hne : (s.ring buf).head ≠ (s.ring buf).tail) :
    Keeps s (s.setRing buf ((s.ring buf).popped (s.cap buf))) := by
  intro h
  obtain ⟨hb, hl⟩ := inv_iff.mp h
  have hr := hb.rings buf
  refine ⟨inv_iff.mpr ⟨hb.setRing (hr.popped (two_le_cap hb.params_wf buf) hne), ?_⟩, State.setRing_params ..⟩
  rcases hc with rfl | hm
  · exact localsOk_setTail_tx (m := s.main) (nextIndex_ne_nextIndex hr.head_lt hr.tail_lt hne) hl
  · exact localsOk_of_idle (by simpa using hm)

/-- A reset of TX, at any time, or of RX while MAIN is idle. -/
theorem keeps_ringReset (hc : buf = .tx ∨ s.main = .idle) : Keeps s (ringReset buf s) := by
  intro h
  obtain ⟨hb, hl⟩ := inv_iff.mp h
  have hr := hb.rings buf
  refine ⟨inv_iff.mpr ⟨hb.setRing hr.emptied, ?_⟩, State.setRing_params ..⟩
  rcases hc with rfl | hm
  · exact localsOk_setTail_tx (m := s.main) (nextIndex_ne_self (two_le_cap hb.params_wf .tx) hr.head_lt) hl
  · exact localsOk_of_idle (by simpa [ringReset] using hm)

/-- RX is filled in interrupt context (R106). -/
theorem producer_eq_interrupt : producer buf = .interrupt ↔ buf = .rx := by
  cases buf <;> simp [producer]

/-- TX is emptied in interrupt context (R106). -/
theorem consumer_eq_interrupt : consumer buf = .interrupt ↔ buf = .tx := by
  cases buf <;> simp [consumer]

theorem keeps_record (r : Result) : Keeps s (s.record r) :=
  keeps_of_frame rfl rfl rfl rfl id

theorem execTryPush_keeps (buf : Buffer) (b : Byte) (s : State) : OutKeeps s (execTryPush buf b s) := by
  intro t h
  obtain ⟨hc, h⟩ := inContext_eq_next h
  obtain ⟨r, hr, ht⟩ := andThen_eq_next.mp h
  cases ht
  rcases ringPush_eq_next hr with ⟨-, rfl⟩ | ⟨hf, -, rfl⟩
  · exact keeps_record _
  · exact (keeps_pushed (hc.imp_left producer_eq_interrupt.mp) hf b).trans (keeps_record _)

theorem execTryPop_keeps (buf : Buffer) (s : State) : OutKeeps s (execTryPop buf s) := by
  intro t h
  obtain ⟨hc, h⟩ := inContext_eq_next h
  obtain ⟨r, hr, ht⟩ := andThen_eq_next.mp h
  cases ht
  rcases ringPop_eq_next hr with ⟨-, rfl⟩ | ⟨he, -, rfl⟩
  · exact keeps_record _
  · exact (keeps_popped (hc.imp_left consumer_eq_interrupt.mp)
      (by simpa [State.isEmpty] using he)).trans (keeps_record _)

theorem execReset_keeps (buf : Buffer) (s : State) : OutKeeps s (execReset buf s) := by
  intro t h
  obtain ⟨hc, h⟩ := inContext_eq_next h
  cases h
  exact keeps_ringReset (hc.imp_left consumer_eq_interrupt.mp)

/-! ## MAIN -/

/-- Rd3: the pop's release, with MAIN moved to where it holds nothing about the buffers. -/
theorem keeps_release {h : Nat} {d : Byte} {m : MainState} (hm : s.main = .atRd3 h d)
    (hl : ∀ u : State, (u.at m).localsOk) : Keeps s ((s.setTail .rx (s.next .rx s.rx.tail)).at m) := by
  refine keeps_setRing_at fun hb hl₃ => ⟨?_, hl _⟩
  obtain ⟨hne, -⟩ : s.rx.head ≠ s.rx.tail ∧ s.rx.storage.lookup s.rx.tail = some d := (localsOk_iff_at hm).mp hl₃
  exact (hb.rings .rx).popped (two_le_cap hb.params_wf .rx) hne

/-- Rs2: the discard up to the head MAIN holds, with MAIN moved to where it holds nothing about the buffers. -/
theorem keeps_discard {h : Nat} {m : MainState} (hm : s.main = .atRs2 h) (hl : ∀ u : State, (u.at m).localsOk) :
    Keeps s ((s.setTail .rx h).at m) := by
  refine keeps_setRing_at fun hb hl₂ => ⟨?_, hl _⟩
  obtain ⟨hh, hc⟩ : h < s.cap .rx ∧ count (s.cap .rx) h s.rx.tail ≤ s.occupancy .rx := (localsOk_iff_at hm).mp hl₂
  exact (hb.rings .rx).discard hh hc

theorem mainStep_keeps (s : State) : OutKeeps s (mainStep s) := by
  intro t h
  cases microStepTaken_of_mainStep h with
  | idle => exact .refl s
  | init => exact Keeps.trans (t := configureUart _ s) (keeps_of_frame rfl rfl rfl rfl id) keeps_finish
  | w1 => exact keeps_at fun _ => rfl
  | @w2Space b nh _ hm hs =>
    refine keeps_at fun h => ?_
    have hnh : nh = s.next .tx s.tx.head := (localsOk_iff_at hm).mp (inv_iff.mp h).2
    exact And.intro hnh hs
  | w2Full hm | w3Again hm =>
    refine keeps_at fun h => ?_
    exact (localsOk_iff_at hm).mp (inv_iff.mp h).2
  | w3Abort => exact keeps_finishWith _
  | @w4 b nh _ hm =>
    refine keeps_setRing_at fun hb hl => ⟨(hb.rings .tx).store b, ?_⟩
    obtain ⟨hnh, hne⟩ : nh = s.next .tx s.tx.head ∧ nh ≠ s.tx.tail := (localsOk_iff_at hm).mp hl
    exact And.intro hnh (And.intro hne (Memory.lookup_write_same ..))
  | @w5 b nh _ hm =>
    refine keeps_setRing_at fun hb hl => ?_
    obtain ⟨rfl, hne, hd⟩ : nh = s.next .tx s.tx.head ∧ nh ≠ s.tx.tail ∧ s.tx.storage.lookup s.tx.head = some b :=
      (localsOk_iff_at hm).mp hl
    exact ⟨(hb.rings .tx).publish hne (Option.isSome_of_eq_some hd), rfl⟩
  | w6 | rd6 => exact Keeps.trans (t := enableTx s) (keeps_of_frame rfl rfl rfl rfl id) (keeps_finishWith _)
  | rd1Empty | rd5End => exact keeps_finishWith _
  | rd1Data _ he => exact keeps_at fun _ => he
  | rd2 hm =>
    refine keeps_at fun h => ?_
    obtain ⟨hb, hl⟩ := inv_iff.mp h
    have hne : s.rx.head ≠ s.rx.tail := (localsOk_iff_at hm).mp hl
    exact And.intro hne ((hb.rings .rx).lookup_tail hne .rx)
  | rd3Flow hm => exact keeps_release hm fun _ => trivial
  | rd3End hm => exact (keeps_release (m := .idle) hm fun _ => trivial).trans (keeps_record _)
  | rd4 => exact keeps_at fun _ => le_rfl
  | rd5Request _ _ hf =>
    -- a pause acknowledged shows that flow control is built in
    exact Keeps.trans (t := { s with flowCtrl := .resumeRequested })
      (keeps_of_frame rfl rfl rfl rfl fun hh hx => absurd (hf.symm.trans (hh hx)) (by decide))
      (keeps_at fun _ => trivial)
  | rs1 =>
    refine keeps_at fun h => ?_
    exact And.intro ((inv_iff.mp h).1.rings .rx).head_lt le_rfl
  | rs2Flow hm => exact keeps_discard hm fun _ => trivial
  | rs2End hm => exact keeps_discard (m := .idle) hm fun _ => trivial
  | rs3 =>
    exact Keeps.trans (t := { s with flowCtrl := .resumeAcknowledged })
      (keeps_of_frame rfl rfl rfl rfl fun _ _ => rfl) keeps_finish
  | rt => exact Keeps.trans (t := rtCleared _ s) (keeps_of_frame rfl rfl rfl rfl id) (keeps_finishWith _)

theorem runMain_keeps (n : Nat) (s : State) : OutKeeps s (runMain n s) := by
  induction n generalizing s with
  | zero => exact outKeeps_next (.refl s)
  | succ n ih =>
    unfold runMain
    split
    · exact outKeeps_next (.refl s)
    · exact (mainStep_keeps s).andThen ih

theorem runTo_keeps (l : MicroStep) (n : Nat) (s : State) : OutKeeps s (runTo l n s) := by
  induction n generalizing s with
  | zero => exact outKeeps_next (.refl s)
  | succ n ih =>
    unfold runTo
    split
    · exact outKeeps_next (.refl s)
    · refine (mainStep_keeps s).andThen fun u => ?_
      split
      · exact outKeeps_next (.refl u)
      · exact ih u

theorem startOp_keeps (op : MainOp) (s : State) : OutKeeps s (startOp op s) := by
  intro t h
  obtain ⟨-, rfl⟩ := startOp_eq_next h
  exact keeps_at fun _ => by cases op <;> trivial

theorem wholeOp_keeps (op : MainOp) (n : Nat) (s : State) : OutKeeps s (wholeOp op n s) :=
  (startOp_keeps op s).andThen (runMain_keeps n)

/-! ## The handlers -/

theorem applyEffect_keeps (e : Effect) (s : State) : Keeps s (applyEffect e s) := by
  cases e <;> exact keeps_of_frame rfl rfl rfl rfl id

theorem pauseEvaluation_keeps (s : State) : Keeps s (pauseEvaluation s) := by
  rcases pauseEvaluation_cases s with ⟨hx, -, -, he⟩ | ⟨-, he⟩ <;> rw [he]
  · exact keeps_of_frame rfl rfl rfl rfl fun _ => flowHeld_of_enabled hx
  · exact .refl s

theorem forward_keeps (b : Byte) (s : State) : OutKeeps s (forward b s) := by
  intro t h
  rcases forward_eq_next h with ⟨-, rfl⟩ | ⟨hf, -, rfl⟩
  · exact .refl t
  · exact (keeps_pushed (buf := .rx) (.inl rfl) hf b).trans (pauseEvaluation_keeps _)

theorem hardwareReceive_keeps (s : State) : Keeps s (hardwareReceive s).2 := by
  unfold hardwareReceive
  split <;> exact keeps_of_frame rfl rfl rfl rfl id

theorem onRxReady_keeps (s : State) : OutKeeps s (onRxReady s) := by
  refine (hardwareReceive_keeps s).outKeeps ?_
  unfold onRxReady applyAction
  split
  · exact outKeeps_next (applyEffect_keeps _ _)
  · exact forward_keeps _ _

theorem hardwareSend_keeps (v : Byte) (s : State) : Keeps s (hardwareSend v s) :=
  keeps_of_frame rfl rfl rfl rfl id

/-- A control byte is due only where flow control is built in. -/
theorem sendPause_keeps (h : pauseDue s = true) : Keeps s (sendPause s) :=
  keeps_of_frame rfl rfl rfl rfl fun _ => flowHeld_of_enabled (Bool.and_eq_true_iff.mp h).1

theorem sendResume_keeps (s : State) : Keeps s (sendResume s) :=
  keeps_of_frame rfl rfl rfl rfl fun _ _ => rfl

/-- The oldest byte of TX is taken and sent. -/
theorem sendOldest_keeps (v : Byte) (hne : s.tx.head ≠ s.tx.tail) :
    Keeps s (hardwareSend v (s.setRing .tx (s.tx.popped s.params.txN))) :=
  (keeps_popped (buf := .tx) (.inl rfl) hne).trans (hardwareSend_keeps v _)

theorem disarmIfEmpty_keeps (s : State) : Keeps s (disarmIfEmpty s) := by
  unfold disarmIfEmpty
  split
  · exact keeps_of_frame rfl rfl rfl rfl id
  · exact .refl s

theorem onTxReady_keeps (s : State) : OutKeeps s (onTxReady s) := by
  intro t h
  obtain ⟨u, rfl, hu⟩ := onTxReady_eq_next h
  refine Keeps.trans ?_ (disarmIfEmpty_keeps u)
  rcases hu with ⟨hp, rfl⟩ | ⟨-, -, rfl⟩ | ⟨-, -, -, rfl⟩ | ⟨-, -, hne, -, rfl⟩
  · exact sendPause_keeps hp
  · exact sendResume_keeps s
  · exact .refl u
  · exact sendOldest_keeps _ hne

theorem takeInterrupt_keeps {body : State → Out} (h : Handler) (hb : OutKeeps s (body s)) :
    OutKeeps s (takeInterrupt h body s) := by
  intro t ht
  rcases takeInterrupt_eq_next ht with ⟨-, ht⟩ | ⟨-, rfl⟩
  · exact hb t ht
  · exact .refl t

theorem execTxPause_keeps (s : State) : OutKeeps s (execTxPause s) := by
  unfold execTxPause
  split
  · exact outKeeps_next (sendPause_keeps ‹_›)
  · exact outKeeps_next (.refl s)

theorem execTxResume_keeps (s : State) : OutKeeps s (execTxResume s) := by
  unfold execTxResume
  split
  · exact outKeeps_next (sendResume_keeps s)
  · exact outKeeps_next (.refl s)

theorem execTxData_keeps (v : Byte) (s : State) : OutKeeps s (execTxData v s) := by
  intro t h
  rcases execTxData_eq_next h with rfl | ⟨-, -, hne, -, -, rfl⟩
  · exact .refl t
  · exact sendOldest_keeps v hne

/-! ## Every instruction, every move, every step -/

theorem exec_keeps (i : Instr) (s : State) : OutKeeps s (exec i s) := by
  cases i with
  | rxStatusReport | rxCycleStart | rxFeedHold | rxSafetyDoor | rxReset => exact outKeeps_next (applyEffect_keeps _ s)
  | rxForward b => exact forward_keeps b s
  | txPause => exact execTxPause_keeps s
  | txResume => exact execTxResume_keeps s
  | txData v => exact execTxData_keeps v s
  | init | writeByte | readByte | resetReadBuffer | rtTestAndClear => exact wholeOp_keeps _ _ s
  | onRxReady => exact takeInterrupt_keeps _ (onRxReady_keeps s)
  | onTxReady => exact takeInterrupt_keeps _ (onTxReady_keeps s)
  | tryPush buf b => exact execTryPush_keeps buf b s
  | tryPop buf => exact execTryPop_keeps buf s
  | reset buf => exact execReset_keeps buf s
  | occupancy | classify => exact outKeeps_next (keeps_record _)
  | hardwareSendByte v => exact outKeeps_next (hardwareSend_keeps v s)
  | hardwareReceiveByte => exact outKeeps_next ((hardwareReceive_keeps s).trans (keeps_record _))
  | configureUart | enableTxInterrupt | disableTxInterrupt | invokeEmergencyReset =>
    exact outKeeps_next (keeps_of_frame rfl rfl rfl rfl id)

theorem envReceive_keeps (b : Byte) (s : State) : Keeps s (envReceive b s) := by
  unfold envReceive
  split
  · exact keeps_of_frame rfl rfl rfl rfl id
  · exact .refl s

theorem perform_keeps (m : Move) (s : State) : OutKeeps s (perform m s) := by
  cases m with
  | start op => exact startOp_keeps op s
  | main => exact mainStep_keeps s
  | irqRx => exact takeInterrupt_keeps _ (onRxReady_keeps s)
  | irqTx => exact takeInterrupt_keeps _ (onTxReady_keeps s)
  | envRx b => exact outKeeps_next (envReceive_keeps b s)
  | envTxReady | envAbort => exact outKeeps_next (keeps_of_frame rfl rfl rfl rfl id)

theorem runLine_keeps (l : Line) (s : State) : OutKeeps s (runLine l s) := by
  cases l with
  | word bytes =>
    dsimp only [runLine]
    split
    · exact exec_keeps _ s
    · exact fun t h => nomatch h
  | move m => exact perform_keeps m s
  | opTo op label => exact (startOp_keeps op s).andThen (runTo_keeps label scriptFuel)
  | continueTo label => exact runTo_keeps label scriptFuel s
  | continueRest => exact runMain_keeps scriptFuel s

theorem freeStep_keeps (s : State) : OutKeeps s (freeStep s) := by
  have hd : Keeps s { s with draws := s.draws + 1 } := keeps_of_frame rfl rfl rfl rfl id
  unfold freeStep
  dsimp only
  split
  · exact hd.outKeeps (perform_keeps _ _)
  · exact outKeeps_next hd

theorem step_keeps (s : State) : OutKeeps s (step s) := by
  unfold step
  split
  case isFalse => exact fun t h => nomatch h
  split
  · exact Keeps.outKeeps (keeps_of_frame rfl rfl rfl rfl id) (runLine_keeps _ _)
  · exact freeStep_keeps s

/-- Settles O13: every line of the script and every free move is made of steps that keep the invariant. -/
theorem everyStepKeepsTheInvariant : Obligations.EveryStepKeepsTheInvariant :=
  fun s t hs h => step_keeps s t h hs

/-! ## Reset -/

/-- Settles O11: each value is a field of the state after reset. -/
theorem resetValues : Obligations.ResetValues := by
  intro p
  exact ⟨rfl, rfl, rfl, rfl, rfl, rfl, rfl, rfl, rfl, rfl, rfl, rfl, rfl, rfl, rfl⟩

theorem blockOk_reset {p : Params} (h : p.wf = true) : BlockOk (State.resetWith p) where
  params_wf := h
  rings buf := by
    have hn : 0 < (State.resetWith p).cap buf := Nat.zero_lt_of_lt (two_le_cap h buf)
    cases buf <;> exact ringOk_reset hn
  flow _ := rfl

theorem inv_reset {p : Params} (h : p.wf = true) : (State.resetWith p).Inv :=
  inv_iff.mpr ⟨blockOk_reset h, trivial⟩

/-- Nothing is queued and nothing is requested after reset. -/
theorem armed_reset (p : Params) : (State.resetWith p).Armed :=
  ⟨fun hne => absurd rfl hne, fun hr => absurd hr Bool.false_ne_true⟩

/-- Settles O12: after reset both buffers are empty, MAIN is idle and flow control is in the go state. -/
theorem invariantHoldsAtReset : Obligations.InvariantHoldsAtReset :=
  ⟨fun p h => ⟨inv_reset h, armed_reset p⟩, inv_reset (by decide)⟩

/-! ## What a pop answers -/

theorem Inv.lookup_tail (h : s.Inv) (hne : (s.ring buf).head ≠ (s.ring buf).tail) :
    (s.ring buf).storage.lookup (s.ring buf).tail = some (s.slot buf (s.ring buf).tail) :=
  ((inv_iff.mp h).1.rings buf).lookup_tail hne buf

/-- A byte popped is the byte written at the tail. -/
theorem ringPop_reads_written {d : Byte} (hs : s.Inv) (h : ringPop buf s = .next (some d, u)) :
    (s.ring buf).storage.lookup (s.ring buf).tail = some d := by
  rcases ringPop_eq_next h with ⟨-, hr⟩ | ⟨he, -, hr⟩
  · simp at hr
  · obtain ⟨rfl, rfl⟩ : d = s.slot buf (s.ring buf).tail ∧ u = _ := by simpa using hr
    exact Inv.lookup_tail hs (by simpa [State.isEmpty] using he)

/-- The one return of `try_pop` is what the shared pop answers. -/
theorem execTryPop_eq_next (h : execTryPop buf s = .next t) :
    ∃ r, ringPop buf s = .next r ∧ t = r.2.record (.popped r.1) := by
  obtain ⟨-, h⟩ := inContext_eq_next h
  obtain ⟨r, hr, ht⟩ := andThen_eq_next.mp h
  exact ⟨r, hr, by simpa using ht.symm⟩

theorem ringPop_returns {r : Option Byte × State} (h : ringPop buf s = .next r) : r.2.returns = s.returns := by
  rcases ringPop_eq_next h with ⟨-, rfl⟩ | ⟨-, -, rfl⟩
  · rfl
  · simp

theorem execTryPop_reads_written {d : Byte} (hs : s.Inv) (h : execTryPop buf s = .next t)
    (hd : t.returns = s.returns ++ [.popped (some d)]) :
    (s.ring buf).storage.lookup (s.ring buf).tail = some d := by
  obtain ⟨⟨d', u⟩, hr, rfl⟩ := execTryPop_eq_next h
  have hret : u.returns = s.returns := ringPop_returns hr
  obtain rfl : d' = some d := by simpa [hret] using hd
  exact ringPop_reads_written hs hr

/-- Rd2 goes on and takes the byte written at the tail. -/
theorem rd2_reads_written {h : Nat} (hs : s.Inv) (hm : s.main = .atRd2 h) :
    ∃ d, perform .main s = .next { s with main := .atRd3 h d } ∧ s.rx.storage.lookup s.rx.tail = some d := by
  obtain ⟨hb, hl⟩ := inv_iff.mp hs
  have hne : s.rx.head ≠ s.rx.tail := (localsOk_iff_at hm).mp hl
  refine ⟨s.slot .rx s.rx.tail, ?_, Inv.lookup_tail (buf := .rx) hs hne⟩
  have hr : memRead .rx (tailIndexed s .rx) s = .next (s.slot .rx s.rx.tail) := memRead_of_lt (hb.rings .rx).tail_lt
  simp only [perform, mainStep, hm, stepRd2, hr, andThen_next, State.at]

@[simp] theorem disarmIfEmpty_tx (s : State) : (disarmIfEmpty s).tx = s.tx := by
  unfold disarmIfEmpty
  split <;> rfl

@[simp] theorem disarmIfEmpty_wireOut (s : State) : (disarmIfEmpty s).wireOut = s.wireOut := by
  unfold disarmIfEmpty
  split <;> rfl

/-- A move of the TX tail in the TX handler sends the byte written at the tail. -/
theorem onTxReady_reads_written (hs : s.Inv) (h : onTxReady s = .next t) (ht : t.tx.tail ≠ s.tx.tail) :
    ∃ d, t.wireOut = s.wireOut ++ [d] ∧ s.tx.storage.lookup s.tx.tail = some d := by
  obtain ⟨u, rfl, hu⟩ := onTxReady_eq_next h
  rw [disarmIfEmpty_tx] at ht
  rcases hu with ⟨-, rfl⟩ | ⟨-, -, rfl⟩ | ⟨-, -, -, rfl⟩ | ⟨-, -, hne, -, rfl⟩
  · exact absurd rfl ht
  · exact absurd rfl ht
  · exact absurd rfl ht
  · exact ⟨_, by simp, Inv.lookup_tail (buf := .tx) hs hne⟩

/-- Settles O16: a byte is taken only from a buffer that is not empty, and there the slot at the tail is live. -/
theorem popsReadWrittenBytes : Obligations.PopsReadWrittenBytes := by
  refine ⟨fun s u buf d hs h => ringPop_reads_written hs h, fun s t buf d hs h hd => execTryPop_reads_written hs h hd,
    fun s h hs hm => rd2_reads_written hs hm, fun s t hs h ht => ?_⟩
  rcases takeInterrupt_eq_next h with ⟨-, h⟩ | ⟨-, rfl⟩
  · exact onTxReady_reads_written hs h ht
  · exact absurd rfl ht

end Sys2Proof.Proofs.Invariant
end

section
/-!
PROOFS. The latch of realtime requests (R29): what each move of an agent does to it.
-/

namespace Sys2Proof.Proofs.Latch
open Sys2Proof Sys2Proof.Machine Sys2Proof.Claims Sys2Proof.Proofs.MicroSteps

/-- The command byte of an effect (R72). -/
def commandOf (p : Params) : Effect → Byte
  | .statusReport => p.cmdStatusReport
  | .cycleStart => p.cmdCycleStart
  | .feedHold => p.cmdFeedHold
  | .safetyDoor => p.cmdSafetyDoor
  | .reset => p.cmdReset

/-- An effect is intercepted only from its own command byte. -/
theorem eq_commandOf_of_classify {p : Params} {b : Byte} {e : Effect} (h : classify p b = .intercepted e) :
    b = commandOf p e := by
  unfold classify at h
  split at h
  · cases h; assumption
  split at h
  · cases h; assumption
  split at h
  · cases h; assumption
  split at h
  · cases h; assumption
  split at h <;> cases h
  assumption

/-- Only the single step of `rt_test_and_clear` writes the latch (R141). -/
theorem mainStep_rtPending {s t : State} (h : mainStep s = .next t) :
    t.rtPending = s.rtPending ∨ ∃ k, s.main = .atRt k ∧ t.rtPending = flagsDiff s.rtPending k := by
  cases microStepTaken_of_mainStep h with
  | rt hm => exact .inr ⟨_, hm, rfl⟩
  | _ => exact .inl rfl

theorem forward_rtPending {b : Byte} {s t : State} (h : forward b s = .next t) : t.rtPending = s.rtPending := by
  rcases forward_eq_next h with ⟨-, rfl⟩ | ⟨-, -, rfl⟩
  · rfl
  · rcases pauseEvaluation_cases (s.setRing .rx (s.rx.pushed s.params.rxN b)) with ⟨-, -, -, he⟩ | ⟨-, he⟩ <;>
      rw [he] <;> rfl

theorem disarmIfEmpty_rtPending (s : State) : (disarmIfEmpty s).rtPending = s.rtPending := by
  unfold disarmIfEmpty
  split <;> rfl

theorem onTxReady_rtPending {s t : State} (h : onTxReady s = .next t) : t.rtPending = s.rtPending := by
  obtain ⟨u, rfl, hu⟩ := onTxReady_eq_next h
  rw [disarmIfEmpty_rtPending]
  rcases hu with ⟨-, rfl⟩ | ⟨-, -, rfl⟩ | ⟨-, -, -, rfl⟩ | ⟨-, -, -, -, rfl⟩ <;> rfl

/-- Everything a move can do to the latch: nothing, the effect of a command byte read, or a test-and-clear. -/
theorem perform_rtPending {m : Move} {s t : State} (h : perform m s = .next t) :
    t.rtPending = s.rtPending ∨
      (∃ e, m = .irqRx ∧ s.wireIn.head? = some (commandOf s.params e) ∧
        t.rtPending = (applyEffect e s).rtPending) ∨
      (∃ k, m = .main ∧ s.main = .atRt k ∧ t.rtPending = flagsDiff s.rtPending k) := by
  cases m with
  | start op =>
    obtain ⟨-, rfl⟩ := startOp_eq_next h
    exact .inl rfl
  | main => exact (mainStep_rtPending h).imp_right fun ⟨k, hk⟩ => .inr ⟨k, rfl, hk⟩
  | irqRx =>
    rcases takeInterrupt_eq_next h with ⟨hi, h⟩ | ⟨-, rfl⟩
    · obtain ⟨b, rest, hw, ⟨e, hc, rfl⟩ | ⟨-, hf⟩⟩ := onRxReady_eq_next h hi
      · refine .inr (.inl ⟨e, rfl, ?_, by cases e <;> rfl⟩)
        rw [hw, ← eq_commandOf_of_classify hc, List.head?_cons]
      · exact .inl (by rw [forward_rtPending hf])
    · exact .inl rfl
  | irqTx =>
    rcases takeInterrupt_eq_next h with ⟨-, h⟩ | ⟨-, rfl⟩
    · exact .inl (onTxReady_rtPending h)
    · exact .inl rfl
  | envRx b =>
    cases h
    unfold envReceive
    split <;> exact .inl rfl
  | envTxReady | envAbort => cases h; exact .inl rfl

/-- The latch rule of a flag that one effect sets, no effect clears, and a test-and-clear clears only by its mask. -/
theorem latchRule_of_effect {flag : RtFlags → Bool} {cmd : Params → Byte} (e : Effect)
    (hcmd : ∀ p, commandOf p e = cmd p)
    (hset : ∀ e' s, flag (applyEffect e' s).rtPending = (flag s.rtPending || decide (e' = e)))
    (hclear : ∀ f k, flag (flagsDiff f k) = (flag f && !flag k)) : LatchRule flag cmd := by
  intro m s t h
  rcases perform_rtPending h with hk | ⟨e', rfl, hw, he⟩ | ⟨k, rfl, hm, hd⟩
  · rw [hk]
    exact ⟨fun h0 h1 => absurd (h0.symm.trans h1) (by decide), fun h1 h0 => absurd (h0.symm.trans h1) (by decide)⟩
  · rw [he, hset]
    refine ⟨fun h0 h1 => ?_, fun h1 h0 => ?_⟩
    · obtain rfl : e' = e := by simpa [h0] using h1
      exact ⟨rfl, hcmd s.params ▸ hw⟩
    · simp [h1] at h0
  · rw [hd, hclear]
    refine ⟨fun h0 h1 => ?_, fun h1 h0 => ?_⟩
    · simp [h0] at h1
    · exact ⟨rfl, k, hm, by simpa [h1] using h0⟩

/-- Settles O37: each flag has one effect that sets it, and the test-and-clear of a mask clears no flag outside it. -/
theorem flagsAreSetByCommandAndClearedByTheConsumer : Obligations.FlagsAreSetByCommandAndClearedByTheConsumer := by
  refine ⟨latchRule_of_effect .statusReport (fun _ => rfl) (fun e s => ?_) (fun _ _ => rfl),
    latchRule_of_effect .cycleStart (fun _ => rfl) (fun e s => ?_) (fun _ _ => rfl),
    latchRule_of_effect .feedHold (fun _ => rfl) (fun e s => ?_) (fun _ _ => rfl),
    latchRule_of_effect .safetyDoor (fun _ => rfl) (fun e s => ?_) (fun _ _ => rfl)⟩
  all_goals cases e <;> simp [applyEffect]

end Sys2Proof.Proofs.Latch
end

section
/-!
PROOFS. The refusal of a second operation of MAIN (R32, U10).
-/

namespace Sys2Proof.Proofs.MainBusy
open Sys2Proof Sys2Proof.Machine

/-- An operation of MAIN does not start while one is in progress. -/
theorem wholeOp_of_busy {s : State} (h : s.main ≠ .idle) (op : MainOp) (n : Nat) :
    wholeOp op n s = .refused .mainBusy := by
  rw [wholeOp, startOp, inContext_main_busy _ h, andThen_refused]

/-- Settles O54: MAIN's five operations start, and the three primitives of its role run, only from idle. -/
theorem secondMainOperationIsRefused : Obligations.SecondMainOperationIsRefused := by
  rintro s h i (⟨baud, rfl⟩ | ⟨b, rfl⟩ | rfl | rfl | ⟨m, rfl⟩ | ⟨b, rfl⟩ | rfl | rfl)
  · exact wholeOp_of_busy h (.init baud) 1
  · exact wholeOp_of_busy h (.writeByte b) 5
  · exact wholeOp_of_busy h .readByte 6
  · exact wholeOp_of_busy h .resetReadBuffer 3
  · exact wholeOp_of_busy h (.rtTestAndClear m) 1
  · exact inContext_main_busy _ h
  · exact inContext_main_busy _ h
  · exact inContext_main_busy _ h

end Sys2Proof.Proofs.MainBusy
end

section
/-!
PROOFS. One step at the head of the script: which line it runs (R60, R86, R208).
-/

namespace Sys2Proof.Proofs.ScriptStep
open Sys2Proof Sys2Proof.Machine

/-- With legal parameters a step takes the first line off the script and runs it. -/
theorem step_of_script {s : State} {l : Line} {rest : List Line} (hwf : s.params.wf = true)
    (hs : s.script = l :: rest) : step s = runLine l { s with script := rest } := by
  rw [step, if_pos hwf, hs]

/-- Where the script is at its end, a step with legal parameters is a free move. -/
theorem step_of_script_nil {s : State} (hwf : s.params.wf = true) (hs : s.script = []) : step s = freeStep s := by
  rw [step, if_pos hwf, hs]

/-- Settles O9: the line that names a move runs as that move. -/
theorem scriptNamesTheMover : Obligations.ScriptNamesTheMover :=
  fun _ _ _ hwf hs => step_of_script hwf hs

end Sys2Proof.Proofs.ScriptStep
end

section
/-!
PROOFS. No fault (R55): the one thing that faults is a storage access, every access is made at the head or the
tail of a buffer, and the invariant has both in range.
-/

namespace Sys2Proof.Proofs.FaultFree
open Sys2Proof Sys2Proof.Machine Sys2Proof.Proofs.Invariant Sys2Proof.Proofs.ScriptStep

/-- The outcome is not a fault. -/
def NoFault {α : Type} (x : Host.Outcome α Fault Refusal) : Prop :=
  ∀ f, x ≠ .fault f

section
variable {α β : Type}

theorem noFault_next (a : α) : NoFault (.next a) :=
  fun _ h => nomatch h

theorem noFault_refused (r : Refusal) : NoFault (α := α) (.refused r) :=
  fun _ h => nomatch h

theorem noFault_ite {c : Prop} [Decidable c] {x y : Host.Outcome α Fault Refusal} (hx : NoFault x) (hy : NoFault y) :
    NoFault (if c then x else y) := by
  split
  · exact hx
  · exact hy

/-- A sequence faults only in one of its two parts. -/
theorem NoFault.andThen {x : Host.Outcome α Fault Refusal} {k : α → Host.Outcome β Fault Refusal} (hx : NoFault x)
    (hk : ∀ a, x = .next a → NoFault (k a)) : NoFault (andThen x k) := by
  intro f h
  rcases andThen_eq_fault.mp h with h | ⟨a, ha, h⟩
  · exact hx f h
  · exact hk a ha f h

end

variable {s : State} {x : Out}

/-- A sequence whose first part keeps the invariant: the second starts from a state with the invariant. -/
theorem NoFault.andThen_of_keeps {k : State → Out} (hs : s.Inv) (hx : NoFault x) (hkeeps : OutKeeps s x)
    (hk : ∀ t, t.Inv → NoFault (k t)) : NoFault (Machine.andThen x k) :=
  hx.andThen fun t ht => hk t (hkeeps t ht hs).1

theorem noFault_inContext (c : Context) (s : State) (hx : NoFault x) : NoFault (inContext c s x) := by
  unfold inContext
  split
  · exact hx
  · exact hx
  · exact noFault_refused _

theorem noFault_takeInterrupt {body : State → Out} (h : Handler) (hb : NoFault (body s)) :
    NoFault (takeInterrupt h body s) :=
  noFault_ite hb (noFault_next s)

/-! ## Storage accesses and the ring primitives -/

/-- An access at the head of a buffer is in range. -/
theorem memWrite_head_noFault (hs : s.Inv) (buf : Buffer) (b : Byte) :
    NoFault (memWrite buf (s.ring buf).head b s) := by
  rw [memWrite_of_lt b ((inv_iff.mp hs).1.rings buf).head_lt]
  exact noFault_next _

/-- An access at the tail of a buffer is in range. -/
theorem memRead_tail_noFault (hs : s.Inv) (buf : Buffer) : NoFault (memRead buf (s.ring buf).tail s) := by
  rw [memRead_of_lt ((inv_iff.mp hs).1.rings buf).tail_lt]
  exact noFault_next _

theorem ringPush_noFault (hs : s.Inv) (buf : Buffer) (b : Byte) : NoFault (ringPush buf b s) :=
  noFault_ite (noFault_next _) ((memWrite_head_noFault hs buf b).andThen fun _ _ => noFault_next _)

theorem ringPop_noFault (hs : s.Inv) (buf : Buffer) : NoFault (ringPop buf s) :=
  noFault_ite (noFault_next _) ((memRead_tail_noFault hs buf).andThen fun _ _ => noFault_next _)

/-! ## MAIN -/

/-- Two micro-steps access the storage: the store W4 at the TX head and the read Rd2 at the RX tail. -/
theorem mainStep_noFault (hs : s.Inv) : NoFault (mainStep s) := by
  unfold mainStep
  cases s.main with
  | atW4 => exact (memWrite_head_noFault hs .tx _).andThen fun _ _ => noFault_next _
  | atRd2 => exact (memRead_tail_noFault hs .rx).andThen fun _ _ => noFault_next _
  | atW2 | atW3 | atRd1 | atRd3 | atRd5 | atRs2 => exact noFault_ite (noFault_next _) (noFault_next _)
  | idle | atInit | atW1 | atW5 | atW6 | atRd4 | atRd6 | atRs1 | atRs3 | atRt => exact noFault_next _

theorem runMain_noFault (n : Nat) (hs : s.Inv) : NoFault (runMain n s) := by
  induction n generalizing s with
  | zero => exact noFault_next s
  | succ n ih =>
    unfold runMain
    split
    · exact noFault_next s
    · exact (mainStep_noFault hs).andThen_of_keeps hs (mainStep_keeps s) fun t ht => ih ht

theorem runTo_noFault (l : MicroStep) (n : Nat) (hs : s.Inv) : NoFault (runTo l n s) := by
  induction n generalizing s with
  | zero => exact noFault_next s
  | succ n ih =>
    unfold runTo
    split
    · exact noFault_next s
    · refine (mainStep_noFault hs).andThen_of_keeps hs (mainStep_keeps s) fun t ht => ?_
      exact noFault_ite (noFault_next t) (ih ht)

theorem startOp_noFault (op : MainOp) (s : State) : NoFault (startOp op s) :=
  noFault_inContext .main s (noFault_next _)

theorem wholeOp_noFault (op : MainOp) (n : Nat) (hs : s.Inv) : NoFault (wholeOp op n s) :=
  (startOp_noFault op s).andThen_of_keeps hs (startOp_keeps op s) fun _ ht => runMain_noFault n ht

/-! ## The handlers -/

theorem forward_noFault (hs : s.Inv) (b : Byte) : NoFault (forward b s) :=
  (ringPush_noFault hs .rx b).andThen fun _ _ => noFault_ite (noFault_next _) (noFault_next _)

/-- Reading the byte keeps the invariant, so that the push of a forwarded byte is in range. -/
theorem onRxReady_noFault (hs : s.Inv) : NoFault (onRxReady s) := by
  unfold onRxReady applyAction
  split
  · exact noFault_next _
  · exact forward_noFault (hardwareReceive_keeps s hs).1 _

theorem sendData_noFault (hs : s.Inv) : NoFault (sendData s) := by
  refine (ringPop_noFault hs .tx).andThen fun r _ => ?_
  split <;> exact noFault_next _

theorem transmit_noFault (hs : s.Inv) : NoFault (transmit s) :=
  noFault_ite (noFault_next _) (noFault_ite (noFault_next _) (sendData_noFault hs))

theorem onTxReady_noFault (hs : s.Inv) : NoFault (onTxReady s) :=
  (transmit_noFault hs).andThen fun _ _ => noFault_next _

/-! ## The transmitted bytes and the ring primitives as instructions -/

theorem execTxPause_noFault (s : State) : NoFault (execTxPause s) :=
  noFault_ite (noFault_next _) (noFault_next _)

theorem execTxResume_noFault (s : State) : NoFault (execTxResume s) :=
  noFault_ite (noFault_next _) (noFault_next _)

theorem execTxData_noFault (v : Byte) (hs : s.Inv) : NoFault (execTxData v s) :=
  noFault_ite (noFault_next s)
    ((ringPop_noFault hs .tx).andThen fun _ _ => noFault_ite (noFault_next _) (noFault_next _))

theorem execTryPush_noFault (buf : Buffer) (b : Byte) (hs : s.Inv) : NoFault (execTryPush buf b s) :=
  noFault_inContext _ s ((ringPush_noFault hs buf b).andThen fun _ _ => noFault_next _)

theorem execTryPop_noFault (buf : Buffer) (hs : s.Inv) : NoFault (execTryPop buf s) :=
  noFault_inContext _ s ((ringPop_noFault hs buf).andThen fun _ _ => noFault_next _)

theorem execReset_noFault (buf : Buffer) (s : State) : NoFault (execReset buf s) :=
  noFault_inContext _ s (noFault_next _)

/-! ## Every instruction, every move, every step -/

theorem exec_noFault (i : Instr) (hs : s.Inv) : NoFault (exec i s) := by
  cases i with
  | rxForward b => exact forward_noFault hs b
  | txPause => exact execTxPause_noFault s
  | txResume => exact execTxResume_noFault s
  | txData v => exact execTxData_noFault v hs
  | init | writeByte | readByte | resetReadBuffer | rtTestAndClear => exact wholeOp_noFault _ _ hs
  | onRxReady => exact noFault_takeInterrupt _ (onRxReady_noFault hs)
  | onTxReady => exact noFault_takeInterrupt _ (onTxReady_noFault hs)
  | tryPush buf b => exact execTryPush_noFault buf b hs
  | tryPop buf => exact execTryPop_noFault buf hs
  | reset buf => exact execReset_noFault buf s
  | rxStatusReport | rxCycleStart | rxFeedHold | rxSafetyDoor | rxReset | occupancy | classify | configureUart
  | hardwareSendByte | hardwareReceiveByte | enableTxInterrupt | disableTxInterrupt | invokeEmergencyReset =>
    -- neither a storage access nor a refusal
    exact noFault_next _

theorem perform_noFault (m : Move) (hs : s.Inv) : NoFault (perform m s) := by
  cases m with
  | start op => exact startOp_noFault op s
  | main => exact mainStep_noFault hs
  | irqRx => exact noFault_takeInterrupt _ (onRxReady_noFault hs)
  | irqTx => exact noFault_takeInterrupt _ (onTxReady_noFault hs)
  | envRx | envTxReady | envAbort => exact noFault_next _

theorem runLine_noFault (l : Line) (hs : s.Inv) : NoFault (runLine l s) := by
  cases l with
  | word bytes =>
    dsimp only [runLine]
    split
    · exact exec_noFault _ hs
    · exact noFault_refused _
  | move m => exact perform_noFault m hs
  | opTo op label =>
    exact (startOp_noFault op s).andThen_of_keeps hs (startOp_keeps op s) fun _ ht => runTo_noFault label scriptFuel ht
  | continueTo label => exact runTo_noFault label scriptFuel hs
  | continueRest => exact runMain_noFault scriptFuel hs

/-- The invariant does not speak of the script. -/
theorem inv_withScript (hs : s.Inv) (script : List Line) : State.Inv { s with script := script } :=
  (keeps_of_frame rfl rfl rfl rfl id hs).1

/-- The invariant does not speak of the free values drawn. -/
theorem inv_withDraws (hs : s.Inv) (draws : Nat) : State.Inv { s with draws := draws } :=
  (keeps_of_frame rfl rfl rfl rfl id hs).1

theorem freeStep_noFault (hs : s.Inv) : NoFault (freeStep s) :=
  noFault_ite (perform_noFault _ (inv_withDraws hs _)) (noFault_next _)

theorem step_noFault (hs : s.Inv) : NoFault (step s) := by
  have hwf : s.params.wf = true := (inv_iff.mp hs).1.params_wf
  cases hl : s.script with
  | nil =>
    rw [step_of_script_nil hwf hl]
    exact freeStep_noFault hs
  | cons l rest =>
    rw [step_of_script hwf hl]
    exact runLine_noFault l (inv_withScript hs rest)

/-- Settles O15: from a state with the invariant every storage access of a line or a free move is in range. -/
theorem noStepFaults : Obligations.NoStepFaults :=
  fun _ f hs => step_noFault hs f

end Sys2Proof.Proofs.FaultFree
end

section
/-!
PROOFS. The encoding (R72, R74, R77, R82, R83): an encoded line decodes to its instruction, a received byte to the row
of its class, and a selector outside the table to nothing.
-/

namespace Sys2Proof.Proofs.Encoding
open Sys2Proof Sys2Proof.Machine Sys2Proof.Claims Sys2Proof.Proofs.Latch

variable {p : Params} {f : Fields} {i : Instr}

/-! ## The line and its fields -/

/-- The four bytes of BAUD, put together again. -/
theorem baud_eq_append_bytes (b : Baud) :
    b.extractLsb' 24 8 ++ b.extractLsb' 16 8 ++ b.extractLsb' 8 8 ++ b.extractLsb' 0 8 = b := by
  rw [BitVec.extractLsb'_append_extractLsb'_eq_extractLsb' (start₁ := 16) (start₂ := 24) rfl,
    BitVec.extractLsb'_append_extractLsb'_eq_extractLsb' (start₁ := 8) (start₂ := 16) rfl,
    BitVec.extractLsb'_append_extractLsb'_eq_extractLsb' (start₁ := 0) (start₂ := 8) rfl]
  exact BitVec.extractLsb'_eq_self

/-- The decoder reads back the fields a line was made of. -/
theorem decode_bytes (p : Params) (f : Fields) : decode p f.bytes = decodeFields p f := by
  rw [Fields.bytes, decode, baud_eq_append_bytes]

/-! ## Operands -/

theorem buffer?_byteOfBuffer (op arg mark : Byte) (baud : Baud) (buf : Buffer) :
    Fields.buffer? ⟨op, arg, byteOfBuffer buf, mark, baud⟩ = some buf := by
  cases buf <;> rfl

theorem maskOfByte_byteOfMask (m : RtFlags) : maskOfByte (byteOfMask m) = m := by
  obtain ⟨sr, cs, fh, sd⟩ := m
  revert sr cs fh sd
  decide

theorem byteOfMask_lt (m : RtFlags) : byteOfMask m < 16 := by
  obtain ⟨sr, cs, fh, sd⟩ := m
  revert sr cs fh sd
  decide

/-! ## The `OP` format -/

/-- An operation's line without a mark is read by the selector table. -/
theorem decodeFields_of_unmarked (p : Params) (hm : f.mark = 0) (h : decodeOp f = .ok i) :
    decodeFields p f = .ok i := by
  simp [decodeFields, hm, decodeUnmarked, h]

/-- A line marked `OP` is read by the selector table. -/
theorem decodeFields_of_mark_op (p : Params) (hm : f.mark = 3) : decodeFields p f = decodeOp f := by
  simp [decodeFields, hm]

/-- The selectors of R82. -/
def selectors : List Byte :=
  [0x00, 0x01, 0x02, 0x03, 0x04, 0x05, 0x06, 0x08, 0x09, 0x0A, 0x0B, 0x0C, 0x10, 0x11, 0x12, 0x13, 0x14, 0x15]

theorem decodeOp_of_not_mem_selectors (h : f.op ∉ selectors) : decodeOp f = .reject .noSuchOperation := by
  have hne {n : Nat} (hn : f.op.toNat = n) : BitVec.ofNat 8 n ∉ selectors := by
    rwa [← hn, BitVec.ofNat_toNat, BitVec.setWidth_eq]
  unfold decodeOp
  split
  case h_19 => rfl
  all_goals
    rename_i hn
    exact absurd (by decide) (hne hn)

/-! ## The `RXBYTE` and `TXBYTE` formats -/

/-- The row of a command byte (R72). -/
def commandRow : Effect → Instr
  | .statusReport => .rxStatusReport
  | .cycleStart => .rxCycleStart
  | .feedHold => .rxFeedHold
  | .safetyDoor => .rxSafetyDoor
  | .reset => .rxReset

/-- Legal parameters have five command bytes and two control bytes (R9). -/
theorem commands_nodup_and_controls_ne_of_wf (h : p.wf = true) : p.commands.Nodup ∧ p.resumeByte ≠ p.pauseByte := by
  simp only [Params.wf, Bool.and_eq_true] at h
  obtain ⟨⟨⟨-, hcommands⟩, hcontrols⟩, -⟩ := h
  exact ⟨of_decide_eq_true hcommands, Ne.symm (by simpa [Params.controlsOk] using hcontrols)⟩

/-- Each of five distinct command bytes is read as its own row. -/
theorem rxInstr_commandOf (h : p.commands.Nodup) (e : Effect) : rxInstr p (commandOf p e) = commandRow e := by
  obtain ⟨⟨sr_cs, sr_fh, sr_sd, sr_rs⟩, ⟨cs_fh, cs_sd, cs_rs⟩, ⟨fh_sd, fh_rs⟩, sd_rs⟩ :
      (p.cmdStatusReport ≠ p.cmdCycleStart ∧ p.cmdStatusReport ≠ p.cmdFeedHold ∧
        p.cmdStatusReport ≠ p.cmdSafetyDoor ∧ p.cmdStatusReport ≠ p.cmdReset) ∧
      (p.cmdCycleStart ≠ p.cmdFeedHold ∧ p.cmdCycleStart ≠ p.cmdSafetyDoor ∧ p.cmdCycleStart ≠ p.cmdReset) ∧
      (p.cmdFeedHold ≠ p.cmdSafetyDoor ∧ p.cmdFeedHold ≠ p.cmdReset) ∧ p.cmdSafetyDoor ≠ p.cmdReset := by
    simpa [Params.commands] using h
  cases e with
  | statusReport => simp [rxInstr, commandOf, commandRow]
  | cycleStart => simp [rxInstr, commandOf, commandRow, sr_cs.symm]
  | feedHold => simp [rxInstr, commandOf, commandRow, sr_fh.symm, cs_fh.symm]
  | safetyDoor => simp [rxInstr, commandOf, commandRow, sr_sd.symm, cs_sd.symm, fh_sd.symm]
  | reset => simp [rxInstr, commandOf, commandRow, sr_rs.symm, cs_rs.symm, fh_rs.symm, sd_rs.symm]

theorem rxInstr_of_noCommand {b : Byte} (h : NoCommand p b) : rxInstr p b = .rxForward b := by
  obtain ⟨sr, cs, fh, sd, rs⟩ := h
  rw [rxInstr, if_neg sr, if_neg cs, if_neg fh, if_neg sd, if_neg rs]

theorem noCommand_of_wf_rxForward {b : Byte} (h : (Instr.rxForward b).wf p = true) : NoCommand p b := by
  simpa [Instr.wf, Params.isCommand, Params.commands, NoCommand] using h

theorem txInstr_pauseByte (p : Params) : txInstr p p.pauseByte = .txPause :=
  if_pos rfl

theorem txInstr_resumeByte (h : p.resumeByte ≠ p.pauseByte) : txInstr p p.resumeByte = .txResume := by
  rw [txInstr, if_neg h, if_pos rfl]

/-- A line marked `RXBYTE` decodes to the row of its byte. -/
theorem decodeFields_of_received {b : Byte} (h : rxInstr p b = i) : decodeFields p ⟨b, 0, 0, 1, 0⟩ = .ok i :=
  congrArg Decoded.ok h

/-- A line marked `TXBYTE` by value decodes to the row of its byte. -/
theorem decodeFields_of_transmitted {v : Byte} (h : txInstr p v = i) : decodeFields p ⟨v, 0, 0, 2, 0⟩ = .ok i :=
  congrArg Decoded.ok h

/-! ## Decoding an encoded instruction -/

theorem decodeFields_encodeFields (hp : p.wf = true) (hi : i.wf p = true) :
    decodeFields p (encodeFields p i) = .ok i := by
  obtain ⟨hcommands, hcontrols⟩ := commands_nodup_and_controls_ne_of_wf hp
  cases i with
  | rxStatusReport => exact decodeFields_of_received (rxInstr_commandOf hcommands .statusReport)
  | rxCycleStart => exact decodeFields_of_received (rxInstr_commandOf hcommands .cycleStart)
  | rxFeedHold => exact decodeFields_of_received (rxInstr_commandOf hcommands .feedHold)
  | rxSafetyDoor => exact decodeFields_of_received (rxInstr_commandOf hcommands .safetyDoor)
  | rxReset => exact decodeFields_of_received (rxInstr_commandOf hcommands .reset)
  | rxForward b => exact decodeFields_of_received (rxInstr_of_noCommand (noCommand_of_wf_rxForward hi))
  | txPause => exact decodeFields_of_transmitted (txInstr_pauseByte p)
  | txResume => exact decodeFields_of_transmitted (txInstr_resumeByte hcontrols)
  | txData v => rfl
  | rtTestAndClear m =>
    refine decodeFields_of_unmarked p rfl ?_
    have hlt := byteOfMask_lt m
    simpa [decodeOp, encodeFields, Fields.withMask, maskOfByte_byteOfMask] using hlt
  | tryPush buf | tryPop buf | occupancy buf | reset buf =>
    refine decodeFields_of_unmarked p rfl ?_
    simp [decodeOp, encodeFields, Fields.withBufferByte, Fields.withBuffer, buffer?_byteOfBuffer]
  | init | writeByte | readByte | resetReadBuffer | onRxReady | onTxReady | classify | configureUart
  | hardwareSendByte | hardwareReceiveByte | enableTxInterrupt | disableTxInterrupt | invokeEmergencyReset =>
    -- the operand field is the operand itself, and the others are zero
    exact decodeFields_of_unmarked p rfl rfl

theorem decode_encode (hp : p.wf = true) (hi : i.wf p = true) : decode p (encode p i) = .ok i := by
  rw [encode, decode_bytes, decodeFields_encodeFields hp hi]

/-- Settles O1: the line holds the instruction's fields, and the decoder reads each format's fields back. -/
theorem decodeOfEncodeIsTheInstruction : Obligations.DecodeOfEncodeIsTheInstruction :=
  fun _ _ hp hi => decode_encode hp hi

/-- Settles O2: each line is the line of its instruction, for the default parameters. -/
theorem wordsOfTheSpecDecode : Obligations.WordsOfTheSpecDecode := by
  have hp : Params.default.wf = true := by decide
  exact ⟨decode_encode (i := .writeByte 0x6F) hp rfl, decode_encode (i := .readByte) hp rfl,
    decode_encode (i := .onTxReady) hp rfl, decode_encode (i := .tryPush .tx 0x47) hp rfl,
    decode_encode (i := .invokeEmergencyReset) hp rfl, decode_encode (i := .rxReset) hp rfl,
    decode_encode (i := .rxForward 0x41) hp rfl, decode_encode (i := .txPause) hp rfl⟩

/-- Settles O3: the mark 3 sends the line to the selector table, which has no row for the byte. -/
theorem selectorsOutsideTheTableAreRejected : Obligations.SelectorsOutsideTheTableAreRejected :=
  fun p _ hm hop => (decodeFields_of_mark_op p hm).trans (decodeOp_of_not_mem_selectors hop)

/-- The eight bytes of a received byte's line decode to the row of its class. -/
theorem decode_of_received {b : Byte} (h : rxInstr p b = i) : decode p [b, 0, 0, 1, 0, 0, 0, 0] = .ok i :=
  decodeFields_of_received h

/-- Settles O4: a command byte is read as its own row, any other byte as the row of forwarded bytes. -/
theorem receivedBytesDecodeByEquality : Obligations.ReceivedBytesDecodeByEquality := by
  intro p b hp
  have hrow (e : Effect) (h : b = commandOf p e) : rxInstr p b = commandRow e :=
    h ▸ rxInstr_commandOf (commands_nodup_and_controls_ne_of_wf hp).1 e
  exact ⟨decode_of_received ∘ hrow .statusReport, decode_of_received ∘ hrow .cycleStart,
    decode_of_received ∘ hrow .feedHold, decode_of_received ∘ hrow .safetyDoor, decode_of_received ∘ hrow .reset,
    decode_of_received ∘ rxInstr_of_noCommand⟩

/-- Settles O5: `ofCode` undoes `code` at each of the four states. -/
theorem flowControlCodes : Obligations.FlowControlCodes :=
  ⟨rfl, rfl, rfl, rfl, fun f => by cases f <;> rfl⟩

end Sys2Proof.Proofs.Encoding
end

section
/-!
PROOFS. One step at a line given by its bytes (R86): it runs the instruction the bytes decode to.
-/

namespace Sys2Proof.Proofs.WordStep
open Sys2Proof Sys2Proof.Machine Sys2Proof.Proofs.ScriptStep

theorem runLine_word {s : State} {bytes : List Byte} {i : Instr} (h : decode s.params bytes = .ok i) :
    runLine (.word bytes) s = exec i s := by
  simp only [runLine, h]

/-- With legal parameters a step at a line that decodes moves past the line and runs its instruction. -/
theorem step_of_word {s : State} {bytes : List Byte} {rest : List Line} {i : Instr} (hwf : s.params.wf = true)
    (hs : s.script = .word bytes :: rest) (h : decode s.params bytes = .ok i) :
    step s = exec i { s with script := rest } :=
  (step_of_script hwf hs).trans (runLine_word h)

/-- Settles O7: the line is taken off the script, and its bytes decode to the instruction that runs. -/
theorem stepRunsTheDecodedLine : Obligations.StepRunsTheDecodedLine :=
  fun _ _ _ _ hwf hs h => step_of_word hwf hs h

theorem toOption_eq_some {d : Decoded} {i : Instr} : d.toOption = some i ↔ d = .ok i := by
  cases d <;> simp [Decoded.toOption]

/-- Settles O8: the placed line is the first of the script, and taking it off gives the state before it was placed. -/
theorem placedWordRunsNext : Obligations.PlacedWordRunsNext := by
  intro s nbits w i hp h
  have hwf : (s.withFetchWord nbits w).params.wf = true := by
    rw [State.withFetchWord, hp]
    decide
  refine step_of_word hwf rfl ?_
  rw [State.withFetchWord, hp]
  exact toOption_eq_some.mp h

end Sys2Proof.Proofs.WordStep
end

section
/-!
PROOFS. What each move of an agent sends (R74, R118, R122): only the TX handler sends, one byte, a control byte first.
-/

namespace Sys2Proof.Proofs.Sending
open Sys2Proof Sys2Proof.Machine Sys2Proof.Proofs.Invariant

variable {s t : State}

/-- No effect of a command sends (R132 to R136). -/
@[simp] theorem applyEffect_wireOut (e : Effect) (s : State) : (applyEffect e s).wireOut = s.wireOut := by
  cases e <;> rfl

theorem forward_wireOut {b : Byte} (h : forward b s = .next t) : t.wireOut = s.wireOut := by
  rcases forward_eq_next h with ⟨-, rfl⟩ | ⟨-, -, rfl⟩
  · rfl
  · rcases pauseEvaluation_cases (s.setRing .rx (s.rx.pushed s.params.rxN b)) with ⟨-, -, -, he⟩ | ⟨-, he⟩ <;>
      rw [he] <;> rfl

theorem onRxReady_wireOut (h : onRxReady s = .next t) (hi : s.invocable .onRxReady = true) :
    t.wireOut = s.wireOut := by
  obtain ⟨b, rest, -, ⟨e, -, rfl⟩ | ⟨-, hf⟩⟩ := onRxReady_eq_next h hi
  · exact applyEffect_wireOut e _
  · rw [forward_wireOut hf]

theorem mainStep_wireOut (h : mainStep s = .next t) : t.wireOut = s.wireOut := by
  obtain ⟨-, -, -, -, hw, -⟩ := mainStep_frame h
  exact hw

/-- Only the TX handler sends. -/
theorem perform_wireOut_of_ne_irqTx {m : Move} (hm : m ≠ .irqTx) (h : perform m s = .next t) :
    t.wireOut = s.wireOut := by
  cases m with
  | start op =>
    obtain ⟨-, rfl⟩ := startOp_eq_next h
    rfl
  | main => exact mainStep_wireOut h
  | irqRx =>
    rcases takeInterrupt_eq_next h with ⟨hi, h⟩ | ⟨-, rfl⟩
    · exact onRxReady_wireOut h hi
    · rfl
  | irqTx => exact absurd rfl hm
  | envRx b =>
    cases h
    unfold envReceive
    split <;> rfl
  | envTxReady | envAbort =>
    cases h
    rfl

theorem pauseDue_eq_true : pauseDue s = true ↔ s.params.xonxoffEnable = true ∧ s.flowCtrl = .pauseRequested := by
  simp [pauseDue]

theorem resumeByteDue_eq_true :
    resumeByteDue s = true ↔ s.params.xonxoffEnable = true ∧ s.flowCtrl = .resumeRequested := by
  simp [resumeByteDue]

/-- No control byte is due without flow control, or with no request pending. -/
theorem no_request_of_not_due (hp : pauseDue s = false) (hr : resumeByteDue s = false) :
    s.params.xonxoffEnable = false ∨ s.flowCtrl.isRequest = false := by
  cases hx : s.params.xonxoffEnable with
  | false => exact .inl rfl
  | true =>
    rw [FlowCtrl.isRequest_eq_false]
    exact .inr ⟨by simpa [pauseDue, hx] using hp, by simpa [resumeByteDue, hx] using hr⟩

theorem invocable_onTxReady (h : s.invocable .onTxReady = true) : s.txIrqEn = true ∧ s.txReady = true := by
  simp only [State.invocable, State.enabled, State.pending, Bool.and_eq_true] at h
  obtain ⟨⟨-, hen⟩, hready⟩ := h
  exact ⟨hen, hready⟩

/-- What the TX handler sends: nothing, the control byte requested, or the oldest queued byte. -/
theorem onTxReady_wireOut (h : onTxReady s = .next t) :
    t.wireOut = s.wireOut ∨
      (s.params.xonxoffEnable = true ∧ s.flowCtrl = .pauseRequested ∧
        t.wireOut = s.wireOut ++ [s.params.pauseByte] ∧ t.tx = s.tx) ∨
      (s.params.xonxoffEnable = true ∧ s.flowCtrl = .resumeRequested ∧
        t.wireOut = s.wireOut ++ [s.params.resumeByte] ∧ t.tx = s.tx) ∨
      ((s.params.xonxoffEnable = false ∨ s.flowCtrl.isRequest = false) ∧ s.tx.head ≠ s.tx.tail ∧
        t.wireOut = s.wireOut ++ [s.slot .tx s.tx.tail]) := by
  obtain ⟨u, rfl, hu⟩ := onTxReady_eq_next h
  rw [disarmIfEmpty_wireOut, disarmIfEmpty_tx]
  rcases hu with ⟨hp, rfl⟩ | ⟨-, hr, rfl⟩ | ⟨-, -, -, rfl⟩ | ⟨hp, hr, hne, -, rfl⟩
  · obtain ⟨hx, hf⟩ := pauseDue_eq_true.mp hp
    exact .inr (.inl ⟨hx, hf, rfl, rfl⟩)
  · obtain ⟨hx, hf⟩ := resumeByteDue_eq_true.mp hr
    exact .inr (.inr (.inl ⟨hx, hf, rfl, rfl⟩))
  · exact .inl rfl
  · exact .inr (.inr (.inr ⟨no_request_of_not_due hp hr, hne, rfl⟩))

/-- Settles O31: every move but the TX handler's leaves the wire alone, and an invoked TX handler sends at most one
byte. -/
theorem oneByteIsSentPerHandler : Obligations.OneByteIsSentPerHandler := by
  intro m s t h
  by_cases hm : m = .irqTx
  · subst hm
    rcases takeInterrupt_eq_next h with ⟨hi, h⟩ | ⟨-, rfl⟩
    · obtain ⟨hen, hready⟩ := invocable_onTxReady hi
      exact (onTxReady_wireOut h).imp_right fun hsent => ⟨rfl, hen, hready, hsent⟩
    · exact .inl rfl
  · exact .inl (perform_wireOut_of_ne_irqTx hm h)

end Sys2Proof.Proofs.Sending
end

section
/-!
PROOFS. The live bytes of one ring as a list (R16, R37 (e)): what a store, a publish and a discard do to it, and the
index arithmetic it rests on (R90 to R93).
-/

namespace Sys2Proof.Proofs.RingQueue
open Sys2Proof Sys2Proof.Machine Sys2Proof.Claims Sys2Proof.Proofs.Invariant

/-! ## Indices and counts -/

section
variable {n h t : Nat}

/-- Settles O18: both forms of the count differ from `h - t` by a multiple of N and lie in 0..N-1. -/
theorem occupancyIsTheDistanceModuloN : Obligations.OccupancyIsTheDistanceModuloN := by
  intro n h t hh ht
  refine ⟨count_of_le hh, count_of_lt ht, count_lt h t (Nat.zero_lt_of_lt hh), ?_⟩
  have hle : t ≤ h + n := by omega
  rw [count, Int.natCast_mod, Int.natCast_sub hle, Int.natCast_add, add_sub_right_comm, Int.add_emod_right]

/-- Settles O19: the modulus acts at `N - 1` only, and with two slots the successor of an index is another index. -/
theorem successorWrapsAtCapacity : Obligations.SuccessorWrapsAtCapacity := by
  intro n i hn hi
  exact ⟨fun _ => nextIndex_of_lt (by omega), fun _ => nextIndex_of_eq (by omega), nextIndex_lt i (by omega),
    nextIndex_ne_self hn hi⟩

theorem count_eq_zero_iff (hh : h < n) (ht : t < n) : count n h t = 0 ↔ h = t := by
  rw [count_eq hh ht]
  split <;> omega

/-- R92: the slot after the head is the tail exactly where one slot is left. -/
theorem nextIndex_eq_iff_count (hn : 2 ≤ n) (hh : h < n) (ht : t < n) : nextIndex n h = t ↔ count n h t = n - 1 := by
  rw [nextIndex_eq hh, count_eq hh ht]
  (repeat' split) <;> omega

theorem count_nextIndex_self (hn : 2 ≤ n) (ht : t < n) : count n (nextIndex n t) t = 1 := by
  rw [count_nextIndex_head ht ht (nextIndex_ne_self hn ht), count_self]

/-- Settles O21: a push short of full counts one byte more, a pop is a discard of one byte. -/
theorem occupancyIdentities : Obligations.OccupancyIdentities := by
  intro n h t hn hh ht
  refine ⟨fun hc => ?_, fun hc => ?_, count_self n h⟩
  · have hs : nextIndex n h ≠ t := fun hfull => hc.ne ((nextIndex_eq_iff_count hn hh ht).mp hfull)
    exact count_nextIndex_head hh ht hs
  · have hone := count_nextIndex_self hn ht
    rw [count_split hh ht (nextIndex_lt t (by omega)) (by omega), hone]

end

/-! ## The live bytes of one ring -/

/-- The live bytes of a ring of capacity `n`, oldest first. -/
def ringLive (buf : Buffer) (n : Nat) (r : Ring) : List Byte :=
  (List.range (count n r.head r.tail)).map fun k => Memory.load buf ((r.tail + k) % n) r.storage

theorem live_eq (s : State) (buf : Buffer) : s.live buf = ringLive buf (s.cap buf) (s.ring buf) := rfl

section
variable {n : Nat} {r : Ring} {buf : Buffer}

@[simp] theorem length_ringLive (buf : Buffer) (n : Nat) (r : Ring) :
    (ringLive buf n r).length = count n r.head r.tail := by
  simp [ringLive]

/-- A store at the head touches no live byte. -/
theorem ringLive_store (hh : r.head < n) (ht : r.tail < n) (b : Byte) :
    ringLive buf n { r with storage := r.storage.write r.head b } = ringLive buf n r := by
  refine List.map_congr_left fun k hk => ?_
  have hc : k < count n r.head r.tail := List.mem_range.mp hk
  have hkn : k < n := hc.trans (count_lt _ _ (Nat.zero_lt_of_lt hh))
  exact (Memory.load_write ..).trans (if_neg (slot_ne_head hh ht hkn hc.ne))

theorem ringLive_publish (hh : r.head < n) (ht : r.tail < n) (hs : nextIndex n r.head ≠ r.tail) :
    ringLive buf n { r with head := nextIndex n r.head } =
      ringLive buf n r ++ [Memory.load buf r.head r.storage] := by
  simp only [ringLive, count_nextIndex_head hh ht hs, List.range_succ, List.map_append, List.map_singleton,
    slot_after_live hh ht]

theorem ringLive_pushed (hh : r.head < n) (ht : r.tail < n) (hs : nextIndex n r.head ≠ r.tail) (b : Byte) :
    ringLive buf n (r.pushed n b) = ringLive buf n r ++ [b] := by
  rw [← ringLive_store hh ht b]
  refine (ringLive_publish (r := { r with storage := r.storage.write r.head b }) hh ht hs).trans ?_
  simp [Memory.load_write]

theorem ringLive_discard {i : Nat} (hh : r.head < n) (ht : r.tail < n) (hi : i < n)
    (hc : count n i r.tail ≤ count n r.head r.tail) :
    ringLive buf n { r with tail := i } = (ringLive buf n r).drop (count n i r.tail) := by
  refine List.ext_getElem ?_ fun k hk hk' => ?_
  · simp [count_split hh ht hi hc]
  · have e : (i + k) % n = (r.tail + (count n i r.tail + k)) % n := by
      rw [← Nat.add_assoc, ← Nat.mod_add_mod (r.tail + _), slot_after_live hi ht]
    simp [ringLive, e]

/-- A pop discards one byte, the oldest. -/
theorem ringLive_popped (hn : 2 ≤ n) (hh : r.head < n) (ht : r.tail < n) (hne : r.head ≠ r.tail) :
    ringLive buf n (r.popped n) = (ringLive buf n r).drop 1 := by
  have hone := count_nextIndex_self hn ht
  have hpos := count_pos hh ht hne
  rw [← hone]
  exact ringLive_discard hh ht (nextIndex_lt _ (by omega)) (by omega)

theorem ringLive_of_empty (he : r.head = r.tail) : ringLive buf n r = [] :=
  List.length_eq_zero_iff.mp (by simp [he])

/-- The oldest live byte is the one at the tail. -/
theorem ringLive_eq_cons (hh : r.head < n) (ht : r.tail < n) (hne : r.head ≠ r.tail) :
    ∃ rest, ringLive buf n r = Memory.load buf r.tail r.storage :: rest := by
  obtain ⟨c, hc⟩ := Nat.exists_eq_succ_of_ne_zero (count_pos hh ht hne).ne'
  simp [ringLive, hc, List.range_succ_eq_map, Nat.mod_eq_of_lt ht]

end

/-! ## Empty and full -/

section
variable {s : State} {buf : Buffer}

theorem length_live (s : State) (buf : Buffer) : (s.live buf).length = s.occupancy buf :=
  length_ringLive ..

theorem isEmpty_iff : s.isEmpty buf = true ↔ RingEmpty buf s := by
  simp [State.isEmpty, RingEmpty]

theorem isFull_iff : s.isFull buf = true ↔ RingFull buf s := by
  simp [State.isFull, State.next, RingFull]

theorem isFull_eq_false_iff : s.isFull buf = false ↔ ¬RingFull buf s := by
  rw [← isFull_iff, Bool.not_eq_true]

theorem isEmpty_eq_false_iff : s.isEmpty buf = false ↔ ¬RingEmpty buf s := by
  rw [← isEmpty_iff, Bool.not_eq_true]

theorem ringEmpty_iff (hi : s.indexOk buf) : RingEmpty buf s ↔ s.occupancy buf = 0 :=
  have ⟨hh, ht⟩ := hi
  (count_eq_zero_iff hh ht).symm

theorem ringFull_iff (hn : 2 ≤ s.cap buf) (hi : s.indexOk buf) :
    RingFull buf s ↔ s.occupancy buf = s.cap buf - 1 :=
  have ⟨hh, ht⟩ := hi
  nextIndex_eq_iff_count hn hh ht

/-- Settles O20: both tests compare indices, and indices in range are equal, or one apart, exactly at the counts 0 and
N - 1. -/
theorem emptyAndFullByOccupancy : Obligations.EmptyAndFullByOccupancy := by
  refine ⟨fun s buf hn hi => ?_, rfl, rfl⟩
  have hlt : s.occupancy buf < s.cap buf := count_lt _ _ (by omega)
  exact ⟨ringEmpty_iff hi, ringFull_iff hn hi, isEmpty_iff, isFull_iff, by omega⟩

end

end Sys2Proof.Proofs.RingQueue
end

section
/-!
PROOFS. The four primitives of a ring buffer as instructions (R94 to R102).
-/

namespace Sys2Proof.Proofs.RingPrimitives
open Sys2Proof Sys2Proof.Machine Sys2Proof.Claims Sys2Proof.Proofs.Invariant Sys2Proof.Proofs.RingQueue

variable {s t : State} {buf : Buffer}

/-- A handler's call, or a call of MAIN's role with MAIN idle, goes through. -/
theorem inContext_of_offered {c : Context} (hc : c = .interrupt ∨ s.main = .idle) (k : Out) : inContext c s k = k := by
  rcases hc with rfl | hm
  · exact inContext_interrupt s k
  · cases c
    · exact inContext_main_idle k hm
    · exact inContext_interrupt s k

theorem producer_offered (h : buf = .tx → s.main = .idle) : producer buf = .interrupt ∨ s.main = .idle := by
  cases buf
  · exact .inl rfl
  · exact .inr (h rfl)

theorem consumer_offered (h : buf = .rx → s.main = .idle) : consumer buf = .interrupt ∨ s.main = .idle := by
  cases buf
  · exact .inr (h rfl)
  · exact .inl rfl

/-- A ring replaced is seen in its own slots only. -/
theorem slot_setRing_of_ne {other : Buffer} (r : Ring) (h : other ≠ buf) (i : Nat) :
    (s.setRing buf r).slot other i = s.slot other i := by
  rw [State.slot, State.ring_setRing_ne s r h, State.slot]

/-- A change of the tail is seen in no slot of either buffer. -/
theorem slot_setTail (other : Buffer) (j i : Nat) : (s.setTail buf j).slot other i = s.slot other i := by
  by_cases h : other = buf
  · subst h
    simp [State.setTail, State.slot]
  · exact slot_setRing_of_ne _ h i

/-! ## try_push -/

theorem exec_tryPush_of_full (hc : buf = .tx → s.main = .idle) (hf : RingFull buf s) (b : Byte) :
    exec (.tryPush buf b) s = .next (s.record (.pushed false)) := by
  refine (inContext_of_offered (producer_offered hc) _).trans ?_
  rw [ringPush_of_full b (isFull_iff.mpr hf), andThen_next]

theorem exec_tryPush_of_space (hc : buf = .tx → s.main = .idle) (hh : (s.ring buf).head < s.cap buf)
    (hf : ¬RingFull buf s) (b : Byte) :
    exec (.tryPush buf b) s = .next ((afterPush buf b s).record (.pushed true)) := by
  refine (inContext_of_offered (producer_offered hc) _).trans ?_
  rw [ringPush_of_space b (isFull_eq_false_iff.mpr hf) hh, andThen_next]
  rfl

/-- Settles O22: the store is at the head, and so is seen in that slot alone. -/
theorem tryPushStoresOrRefuses : Obligations.TryPushStoresOrRefuses :=
  fun s buf b hc hh => ⟨fun hf => exec_tryPush_of_full hc hf b, fun hf =>
    ⟨exec_tryPush_of_space hc hh hf b, slot_pushed s buf b, fun _ i hne => slot_setRing_of_ne _ hne i⟩⟩

/-! ## try_pop -/

theorem exec_tryPop_of_empty (hc : buf = .rx → s.main = .idle) (he : RingEmpty buf s) :
    exec (.tryPop buf) s = .next (s.record (.popped none)) := by
  refine (inContext_of_offered (consumer_offered hc) _).trans ?_
  rw [ringPop_of_empty (isEmpty_iff.mpr he), andThen_next]

theorem exec_tryPop_of_some (hc : buf = .rx → s.main = .idle) (ht : (s.ring buf).tail < s.cap buf)
    (he : ¬RingEmpty buf s) :
    exec (.tryPop buf) s = .next ((afterPop buf s).record (.popped (some (s.slot buf (s.ring buf).tail)))) := by
  refine (inContext_of_offered (consumer_offered hc) _).trans ?_
  rw [ringPop_of_some (isEmpty_eq_false_iff.mpr he) ht, andThen_next]
  rfl

/-- Settles O23: a pop reads the slot at the tail and writes nothing but the tail. -/
theorem tryPopTakesTheByteAtTheTail : Obligations.TryPopTakesTheByteAtTheTail :=
  fun _ _ hc ht => ⟨fun he => exec_tryPop_of_empty hc he, fun he =>
    ⟨exec_tryPop_of_some hc ht he, fun other i => slot_setTail other _ i⟩⟩

/-! ## occupancy and reset -/

/-- Whichever index is the caller's own, the count is of the same two. -/
theorem occupancyFrom_eq (s : State) (buf : Buffer) (c : Context) : occupancyFrom s buf c = s.occupancy buf := by
  by_cases h : c = producer buf <;> simp [occupancyFrom, foreignIndex, State.occupancy, h]

theorem exec_occupancy (s : State) (buf : Buffer) :
    exec (.occupancy buf) s = .next (s.record (.count (s.occupancy buf))) := by
  rw [← occupancyFrom_eq s buf (consumer buf)]
  rfl

/-- Settles O24: the snapshot of the foreign index is the index itself, for either role. -/
theorem occupancyIsReportedToEitherRole : Obligations.OccupancyIsReportedToEitherRole := by
  refine fun s buf => ⟨exec_occupancy s buf, occupancyFrom_eq s buf, fun ⟨hh, _⟩ => ?_⟩
  exact Nat.le_pred_of_lt (count_lt _ _ (Nat.zero_lt_of_lt hh))

/-- Settles O25: with the tail at the head the count is 0, and a tail is no slot. -/
theorem ringResetDiscardsByMovingTheTail : Obligations.RingResetDiscardsByMovingTheTail := by
  intro s buf hc
  refine ⟨inContext_of_offered (consumer_offered hc) _, ?_, fun other i => slot_setTail other _ i⟩
  rw [State.occupancy, State.ring_setTail, count_self]

/-! ## A row of pushes -/

/-- What a row of accepted pushes of `bs` into `buf` leaves: every answer true, the bytes live behind those that were. -/
structure AllPushed (buf : Buffer) (bs : List Byte) (s t : State) : Prop where
  returns : t.returns = s.returns ++ List.replicate bs.length (.pushed true)
  live : t.live buf = s.live buf ++ bs
  indexOk : t.indexOk buf
  cap : t.cap buf = s.cap buf
  main : t.main = s.main

/-- One accepted push. -/
theorem allPushed_one (hi : s.indexOk buf) (hf : ¬RingFull buf s) (b : Byte) :
    AllPushed buf [b] s ((afterPush buf b s).record (.pushed true)) := by
  obtain ⟨hh, ht⟩ := hi
  constructor
  case returns => simp [afterPush]
  case live =>
    rw [live_eq, live_eq, ← ringLive_pushed hh ht hf b]
    simp [afterPush, Ring.pushed]
  case indexOk =>
    simp only [State.indexOk, afterPush, State.record_ring, State.record_cap, State.ring_setRing, State.cap_setRing]
    exact ⟨nextIndex_lt _ (Nat.zero_lt_of_lt hh), ht⟩
  case cap => simp [afterPush]
  case main => simp [afterPush]

theorem AllPushed.occupancy {bs : List Byte} (h : AllPushed buf bs s t) :
    t.occupancy buf = s.occupancy buf + bs.length := by
  rw [← length_live, h.live, List.length_append, length_live]

theorem AllPushed.cons {b : Byte} {bs : List Byte} {u : State} (h₁ : AllPushed buf [b] s u)
    (h₂ : AllPushed buf bs u t) : AllPushed buf (b :: bs) s t where
  returns := by simp [h₂.returns, h₁.returns, List.replicate_succ]
  live := by simp [h₂.live, h₁.live]
  indexOk := h₂.indexOk
  cap := h₂.cap.trans h₁.cap
  main := h₂.main.trans h₁.main

/-- Pushes that fit are all accepted. -/
theorem pushAll_of_fits {bs : List Byte} (hc : buf = .tx → s.main = .idle) (hn : 2 ≤ s.cap buf) (hi : s.indexOk buf)
    (hfit : s.occupancy buf + bs.length ≤ s.cap buf - 1) :
    ∃ t, pushAll buf bs s = .next t ∧ AllPushed buf bs s t := by
  induction bs generalizing s with
  | nil => exact ⟨s, rfl, by simp, by simp, hi, rfl, rfl⟩
  | cons b bs ih =>
    rw [List.length_cons] at hfit
    have hf : ¬RingFull buf s := fun hfull => by
      have hocc := (ringFull_iff hn hi).mp hfull
      omega
    have h₁ := allPushed_one hi hf b
    have hocc := h₁.occupancy
    rw [List.length_singleton] at hocc
    obtain ⟨t, ht, h₂⟩ := ih (fun h => h₁.main.trans (hc h)) (h₁.cap ▸ hn) h₁.indexOk (by rw [h₁.cap]; omega)
    refine ⟨t, ?_, h₁.cons h₂⟩
    rw [pushAll, exec_tryPush_of_space hc hi.1 hf b, andThen_next, ht]

/-- Settles O26: from an empty buffer N - 1 pushes fit, and with N - 1 bytes live the buffer is full. -/
theorem capacityIsOneLessThanStorage : Obligations.CapacityIsOneLessThanStorage := by
  refine ⟨fun s buf bs hc hn hi he hlen => ?_, rfl, rfl⟩
  have hzero : s.occupancy buf = 0 := (ringEmpty_iff hi).mp he
  have hnil : s.live buf = [] := List.length_eq_zero_iff.mp ((length_live s buf).trans hzero)
  obtain ⟨t, ht, hp⟩ := pushAll_of_fits (bs := bs) hc hn hi (by omega)
  have hocc : t.occupancy buf = bs.length := by rw [hp.occupancy, hzero, Nat.zero_add]
  refine ⟨t, ht, hp.returns, hocc, by rw [hp.live, hnil, List.nil_append], fun hall b => ?_⟩
  have hfull : RingFull buf t := (ringFull_iff (hp.cap ▸ hn) hp.indexOk).mpr (by rw [hocc, hall, hp.cap])
  exact exec_tryPush_of_full (fun h => hp.main.trans (hc h)) hfull b

end Sys2Proof.Proofs.RingPrimitives
end

section
/-!
PROOFS. Both buffers are first-in first-out queues under every move (R37 (e), R103), and `read_byte` answers the byte it
took (R160): a simulation of each move on the lists of live bytes, and MAIN's held byte followed from Rd2 to the answer.
-/

namespace Sys2Proof.Proofs.Queues
open Sys2Proof Sys2Proof.Machine Sys2Proof.Claims
open Sys2Proof.Proofs.MicroSteps Sys2Proof.Proofs.Invariant Sys2Proof.Proofs.RingQueue

variable {s t : State} {buf : Buffer}

/-! ## The live bytes of a state -/

theorem live_of_frame (hp : t.params = s.params) (hr : t.ring buf = s.ring buf) : t.live buf = s.live buf := by
  rw [live_eq, live_eq, State.cap, hp, hr]
  rfl

theorem live_setRing (s : State) (buf : Buffer) (r : Ring) :
    (s.setRing buf r).live buf = ringLive buf (s.cap buf) r := by
  rw [live_eq, State.cap_setRing, State.ring_setRing]

/-- An accepted push appends. -/
theorem live_pushed (hs : s.Inv) (hf : s.isFull buf = false) (b : Byte) :
    (s.setRing buf ((s.ring buf).pushed (s.cap buf) b)).live buf = s.live buf ++ [b] := by
  have hr := (inv_iff.mp hs).1.rings buf
  rw [live_setRing, ringLive_pushed hr.head_lt hr.tail_lt (isFull_eq_false_iff.mp hf), live_eq]

/-- A pop takes the oldest. -/
theorem live_popped (hs : s.Inv) (hne : (s.ring buf).head ≠ (s.ring buf).tail) :
    (s.setRing buf ((s.ring buf).popped (s.cap buf))).live buf = (s.live buf).drop 1 := by
  have hb := (inv_iff.mp hs).1
  have hr := hb.rings buf
  rw [live_setRing, ringLive_popped (two_le_cap hb.params_wf buf) hr.head_lt hr.tail_lt hne, live_eq]

theorem live_of_empty (he : (s.ring buf).head = (s.ring buf).tail) : s.live buf = [] :=
  ringLive_of_empty he

/-- The byte at the tail is the oldest. -/
theorem live_eq_cons (hs : s.Inv) (hne : (s.ring buf).head ≠ (s.ring buf).tail) :
    ∃ rest, s.live buf = s.slot buf (s.ring buf).tail :: rest :=
  have hr := (inv_iff.mp hs).1.rings buf
  ringLive_eq_cons hr.head_lt hr.tail_lt hne

/-! ## MAIN's micro-steps on the queues -/

/-- What MAIN's locals mean at Rd3: RX is not empty, and the byte held is the one written at its tail (R97 (d)). -/
theorem rd3_locals {h : Nat} {d : Byte} (hs : s.Inv) (hm : s.main = .atRd3 h d) :
    s.rx.head ≠ s.rx.tail ∧ s.rx.storage.lookup s.rx.tail = some d :=
  (localsOk_iff_at hm).mp (inv_iff.mp hs).2

/-- Rd3: the pop's release takes the oldest. -/
theorem live_release {h : Nat} {d : Byte} (hs : s.Inv) (hm : s.main = .atRd3 h d) :
    (s.setTail .rx (s.next .rx s.rx.tail)).live .rx = (s.live .rx).drop 1 :=
  live_popped (buf := .rx) hs (rd3_locals hs hm).1

/-- Rs2: the discard takes the bytes up to the head MAIN holds. -/
theorem live_discard {h : Nat} (hs : s.Inv) (hm : s.main = .atRs2 h) :
    (s.setTail .rx h).live .rx = (s.live .rx).drop (count s.params.rxN h s.rx.tail) := by
  obtain ⟨hb, hl⟩ := inv_iff.mp hs
  have hr := hb.rings .rx
  obtain ⟨hh, hc⟩ : h < s.cap .rx ∧ count (s.cap .rx) h s.rx.tail ≤ s.occupancy .rx := (localsOk_iff_at hm).mp hl
  exact (live_setRing ..).trans (ringLive_discard hr.head_lt hr.tail_lt hh hc)

/-- W4: the store touches no live byte. -/
theorem live_store (hs : s.Inv) (b : Byte) :
    (s.setRing .tx { s.tx with storage := s.tx.storage.write s.tx.head b }).live .tx = s.live .tx := by
  have hr := (inv_iff.mp hs).1.rings .tx
  exact (live_setRing ..).trans (ringLive_store hr.head_lt hr.tail_lt b)

/-- W5: the publish appends the byte stored. -/
theorem live_publish {b : Byte} {nh t₀ : Nat} (hs : s.Inv) (hm : s.main = .atW5 b nh t₀) :
    (s.setHead .tx nh).live .tx = s.live .tx ++ [b] := by
  obtain ⟨hb, hl⟩ := inv_iff.mp hs
  have hr := hb.rings .tx
  obtain ⟨rfl, hne, hd⟩ : nh = s.next .tx s.tx.head ∧ nh ≠ s.tx.tail ∧ s.tx.storage.lookup s.tx.head = some b :=
    (localsOk_iff_at hm).mp hl
  rw [← Memory.load_of_lookup (buf := .tx) hd]
  exact (live_setRing ..).trans (ringLive_publish hr.head_lt hr.tail_lt hne)

theorem mainStep_live_rx (hs : s.Inv) (h : mainStep s = .next t) : t.live .rx = rxQueueAfter .main s := by
  cases microStepTaken_of_mainStep h with
  | rd3Flow hm | rd3End hm =>
    simp only [rxQueueAfter, hm]
    exact live_release hs hm
  | rs2Flow hm | rs2End hm =>
    simp only [rxQueueAfter, hm]
    exact live_discard hs hm
  | idle hm => simp only [rxQueueAfter, hm]
  | init hm | w1 hm | w2Space hm | w2Full hm | w3Abort hm | w3Again hm | w4 hm | w5 hm | w6 hm | rd1Empty hm
  | rd1Data hm | rd2 hm | rd4 hm | rd5Request hm | rd5End hm | rd6 hm | rs1 hm | rs3 hm | rt hm =>
    -- RX stands
    simp only [rxQueueAfter, hm]
    rfl

theorem mainStep_live_tx (hs : s.Inv) (h : mainStep s = .next t) : t.live .tx = txQueueAfter .main s := by
  cases microStepTaken_of_mainStep h with
  | w4 hm =>
    simp only [txQueueAfter, hm]
    exact live_store hs _
  | w5 hm =>
    simp only [txQueueAfter, hm]
    exact live_publish hs hm
  | idle hm => simp only [txQueueAfter, hm]
  | init hm | w1 hm | w2Space hm | w2Full hm | w3Abort hm | w3Again hm | w6 hm | rd1Empty hm | rd1Data hm
  | rd2 hm | rd3Flow hm | rd3End hm | rd4 hm | rd5Request hm | rd5End hm | rd6 hm | rs1 hm | rs2Flow hm | rs2End hm
  | rs3 hm | rt hm =>
    -- TX stands
    simp only [txQueueAfter, hm]
    rfl

/-! ## The handlers on the queues -/

/-- What a step of a handler or of the environment leaves of MAIN and of buffer `buf`. -/
structure Stands (buf : Buffer) (s t : State) : Prop where
  params : t.params = s.params
  ring : t.ring buf = s.ring buf
  main : t.main = s.main
  returns : t.returns = s.returns

theorem Stands.refl (buf : Buffer) (s : State) : Stands buf s s :=
  ⟨rfl, rfl, rfl, rfl⟩

theorem Stands.trans {u : State} (h₁ : Stands buf s t) (h₂ : Stands buf t u) : Stands buf s u :=
  ⟨h₂.params.trans h₁.params, h₂.ring.trans h₁.ring, h₂.main.trans h₁.main, h₂.returns.trans h₁.returns⟩

theorem Stands.live (h : Stands buf s t) : t.live buf = s.live buf :=
  live_of_frame h.params h.ring

theorem setRing_stands (s : State) {other : Buffer} (r : Ring) (h : other ≠ buf) : Stands other s (s.setRing buf r) :=
  ⟨State.setRing_params .., State.ring_setRing_ne s r h, State.setRing_main .., State.setRing_returns ..⟩

theorem applyEffect_stands (e : Effect) (s : State) (buf : Buffer) : Stands buf s (applyEffect e s) := by
  cases e <;> cases buf <;> exact ⟨rfl, rfl, rfl, rfl⟩

theorem pauseEvaluation_stands (s : State) (buf : Buffer) : Stands buf s (pauseEvaluation s) := by
  rcases pauseEvaluation_cases s with ⟨-, -, -, he⟩ | ⟨-, he⟩ <;> rw [he]
  · cases buf <;> exact ⟨rfl, rfl, rfl, rfl⟩
  · exact .refl buf s

theorem disarmIfEmpty_stands (s : State) (buf : Buffer) : Stands buf s (disarmIfEmpty s) := by
  unfold disarmIfEmpty
  split
  · cases buf <;> exact ⟨rfl, rfl, rfl, rfl⟩
  · exact .refl buf s

/-- A byte read off the wire. -/
theorem withWireIn_stands (s : State) (rest : List Byte) (buf : Buffer) : Stands buf s { s with wireIn := rest } := by
  cases buf <;> exact ⟨rfl, rfl, rfl, rfl⟩

/-- A byte sent. -/
theorem hardwareSend_stands (v : Byte) (s : State) (buf : Buffer) : Stands buf s (hardwareSend v s) := by
  cases buf <;> exact ⟨rfl, rfl, rfl, rfl⟩

theorem forward_stands {b : Byte} (h : forward b s = .next t) : Stands .tx s t := by
  rcases forward_eq_next h with ⟨-, rfl⟩ | ⟨-, -, rfl⟩
  · exact .refl .tx t
  · exact (setRing_stands s _ (by decide)).trans (pauseEvaluation_stands _ .tx)

theorem forward_live_rx {b : Byte} (hs : s.Inv) (h : forward b s = .next t) :
    t.live .rx = if s.isFull .rx = false then s.live .rx ++ [b] else s.live .rx := by
  rcases forward_eq_next h with ⟨hf, rfl⟩ | ⟨hf, -, rfl⟩
  · simp [hf]
  · rw [if_pos hf, (pauseEvaluation_stands _ .rx).live]
    exact live_pushed (buf := .rx) hs hf b

theorem onRxReady_stands (h : onRxReady s = .next t) (hi : s.invocable .onRxReady = true) : Stands .tx s t := by
  obtain ⟨b, rest, -, ⟨e, -, rfl⟩ | ⟨-, hf⟩⟩ := onRxReady_eq_next h hi
  · exact (withWireIn_stands s rest .tx).trans (applyEffect_stands e _ .tx)
  · exact (withWireIn_stands s rest .tx).trans (forward_stands hf)

/-- The RX handler appends the byte it forwards, where there is room. -/
theorem onRxReady_live_rx (hs : s.Inv) (h : onRxReady s = .next t) (hi : s.invocable .onRxReady = true) :
    t.live .rx = rxQueueAfter .irqRx s := by
  obtain ⟨b, rest, hw, hcase⟩ := onRxReady_eq_next h hi
  have hread : Stands .rx s { s with wireIn := rest } := withWireIn_stands s rest .rx
  simp only [rxQueueAfter, hw, hi, true_and]
  rcases hcase with ⟨e, hc, rfl⟩ | ⟨hc, hf⟩
  · rw [(applyEffect_stands e _ .rx).live, hread.live]
    simp [hc]
  · have hs' : State.Inv { s with wireIn := rest } := (keeps_of_frame rfl rfl rfl rfl id hs).1
    rw [forward_live_rx hs' hf, hread.live]
    simp [hc, State.isFull, State.next, State.cap, State.ring]

theorem onTxReady_stands (h : onTxReady s = .next t) : Stands .rx s t := by
  obtain ⟨u, rfl, hu⟩ := onTxReady_eq_next h
  refine Stands.trans ?_ (disarmIfEmpty_stands u .rx)
  rcases hu with ⟨-, rfl⟩ | ⟨-, -, rfl⟩ | ⟨-, -, -, rfl⟩ | ⟨-, -, -, -, rfl⟩
  · exact ⟨rfl, rfl, rfl, rfl⟩
  · exact ⟨rfl, rfl, rfl, rfl⟩
  · exact .refl .rx u
  · exact (setRing_stands s _ (by decide)).trans (hardwareSend_stands ..)

/-- The TX handler takes the oldest byte, if there is one, unless a control byte stands before it. -/
theorem onTxReady_live_tx (hs : s.Inv) (h : onTxReady s = .next t) (hi : s.invocable .onTxReady = true) :
    t.live .tx = txQueueAfter .irqTx s := by
  obtain ⟨u, rfl, hu⟩ := onTxReady_eq_next h
  rw [(disarmIfEmpty_stands u .tx).live]
  rcases hu with ⟨hp, rfl⟩ | ⟨-, hr, rfl⟩ | ⟨hp, hr, he, rfl⟩ | ⟨hp, hr, hne, -, rfl⟩
  · have hstands : (sendPause s).live .tx = s.live .tx := rfl
    simp [txQueueAfter, hp, hstands]
  · have hstands : (sendResume s).live .tx = s.live .tx := rfl
    simp [txQueueAfter, hr, hstands]
  · simp [txQueueAfter, hi, hp, hr, live_of_empty (buf := .tx) he]
  · have htaken : _ = (s.live .tx).drop 1 := live_popped (buf := .tx) hs hne
    rw [(hardwareSend_stands _ _ .tx).live]
    simpa [txQueueAfter, hi, hp, hr] using htaken

/-- On the data path the TX handler sends the byte it takes. -/
theorem onTxReady_sends_oldest (hs : s.Inv) (h : onTxReady s = .next t) (hp : pauseDue s = false)
    (hr : resumeByteDue s = false) : t.wireOut = s.wireOut ++ (s.live .tx).take 1 := by
  obtain ⟨u, rfl, hu⟩ := onTxReady_eq_next h
  rw [disarmIfEmpty_wireOut]
  rcases hu with ⟨hp', -⟩ | ⟨-, hr', -⟩ | ⟨-, -, he, rfl⟩ | ⟨-, -, hne, -, rfl⟩
  · simp [hp] at hp'
  · simp [hr] at hr'
  · simp [live_of_empty (buf := .tx) he]
  · obtain ⟨rest, hl⟩ := live_eq_cons (buf := .tx) hs hne
    simp [hl]

/-! ## Every move on the queues -/

theorem envReceive_stands (b : Byte) (s : State) (buf : Buffer) : Stands buf s (envReceive b s) := by
  unfold envReceive
  split
  · exact withWireIn_stands s _ buf
  · exact .refl buf s

theorem perform_live_rx {m : Move} (hs : s.Inv) (h : perform m s = .next t) : t.live .rx = rxQueueAfter m s := by
  cases m with
  | start op =>
    obtain ⟨-, rfl⟩ := startOp_eq_next h
    rfl
  | main => exact mainStep_live_rx hs h
  | irqRx =>
    rcases takeInterrupt_eq_next h with ⟨hi, h⟩ | ⟨hi, rfl⟩
    · exact onRxReady_live_rx hs h hi
    · cases hw : t.wireIn <;> simp [rxQueueAfter, hw, hi]
  | irqTx =>
    rcases takeInterrupt_eq_next h with ⟨-, h⟩ | ⟨-, rfl⟩
    · exact (onTxReady_stands h).live
    · rfl
  | envRx b =>
    cases h
    exact (envReceive_stands b s .rx).live
  | envTxReady | envAbort =>
    cases h
    rfl

theorem perform_live_tx {m : Move} (hs : s.Inv) (h : perform m s = .next t) : t.live .tx = txQueueAfter m s := by
  cases m with
  | start op =>
    obtain ⟨-, rfl⟩ := startOp_eq_next h
    rfl
  | main => exact mainStep_live_tx hs h
  | irqRx =>
    rcases takeInterrupt_eq_next h with ⟨hi, h⟩ | ⟨-, rfl⟩
    · exact (onRxReady_stands h hi).live
    · rfl
  | irqTx =>
    rcases takeInterrupt_eq_next h with ⟨hi, h⟩ | ⟨hi, rfl⟩
    · exact onTxReady_live_tx hs h hi
    · simp [txQueueAfter, hi]
  | envRx b =>
    cases h
    exact (envReceive_stands b s .tx).live
  | envTxReady | envAbort =>
    cases h
    rfl

/-! ## The byte MAIN holds -/

/-- What a move can do to the byte `read_byte` holds and to the values returned. -/
inductive HeldByteMove (m : Move) (s t : State) : Prop where
  | stands (hheld : heldByte t.main = heldByte s.main) (hret : t.returns = s.returns)
  | otherAnswer {r : Result} (hno : heldByte s.main = none) (hnone : heldByte t.main = none)
      (hret : t.returns = s.returns ++ [r]) (hr : ∀ d, r ≠ .data d)
  | taken {h : Nat} (hm : m = .main) (hat : s.main = .atRd2 h) (hheld : heldByte t.main = some (s.slot .rx s.rx.tail))
      (hret : t.returns = s.returns)
  | answered {d : Byte} (hm : m = .main) (hheld : heldByte s.main = some d) (hidle : t.main = .idle)
      (hret : t.returns = s.returns ++ [.data d])

theorem Stands.heldByteMove {m : Move} (h : Stands buf s t) : HeldByteMove m s t :=
  .stands (by rw [h.main]) h.returns

theorem mainStep_heldByte (h : mainStep s = .next t) : HeldByteMove .main s t := by
  cases microStepTaken_of_mainStep h with
  | rd2 hm => exact .taken rfl hm rfl rfl
  | rd3End hm | rd5End hm | rd6 hm => exact .answered rfl (by rw [hm]; rfl) rfl rfl
  | w3Abort hm | w6 hm | rd1Empty hm | rt hm =>
    exact .otherAnswer (by rw [hm]; rfl) rfl rfl (by simp)
  | idle => exact .stands rfl rfl
  | init hm | w1 hm | w2Space hm | w2Full hm | w3Again hm | w4 hm | w5 hm | rd1Data hm | rd3Flow hm | rd4 hm
  | rd5Request hm | rs1 hm | rs2Flow hm | rs2End hm | rs3 hm =>
    exact .stands (by rw [hm]; rfl) rfl

theorem perform_heldByte {m : Move} (h : perform m s = .next t) : HeldByteMove m s t := by
  cases m with
  | start op =>
    obtain ⟨hm, rfl⟩ := startOp_eq_next h
    exact .stands (by rw [hm]; cases op <;> rfl) rfl
  | main => exact mainStep_heldByte h
  | irqRx =>
    rcases takeInterrupt_eq_next h with ⟨hi, h⟩ | ⟨-, rfl⟩
    · exact (onRxReady_stands h hi).heldByteMove
    · exact .stands rfl rfl
  | irqTx =>
    rcases takeInterrupt_eq_next h with ⟨-, h⟩ | ⟨-, rfl⟩
    · exact (onTxReady_stands h).heldByteMove
    · exact .stands rfl rfl
  | envRx b =>
    cases h
    exact (envReceive_stands b s .rx).heldByteMove
  | envTxReady | envAbort =>
    cases h
    exact .stands rfl rfl

/-- A byte comes to be held at Rd2 only, and it is the oldest. -/
theorem HeldByteMove.takes_oldest {m : Move} {d : Byte} (h : HeldByteMove m s t) (hs : s.Inv)
    (h0 : heldByte s.main = none) (h1 : heldByte t.main = some d) :
    m = .main ∧ s.main.mstep = some .rd2 ∧ (s.live .rx).head? = some d := by
  cases h with
  | stands hheld => simp [hheld, h0] at h1
  | otherAnswer _ hnone => simp [hnone] at h1
  | taken hm hat hheld =>
    obtain rfl : s.slot .rx s.rx.tail = d := Option.some.inj (hheld.symm.trans h1)
    have hne : s.rx.head ≠ s.rx.tail := (localsOk_iff_at hat).mp (inv_iff.mp hs).2
    obtain ⟨rest, hl⟩ := live_eq_cons (buf := .rx) hs hne
    exact ⟨hm, by rw [hat]; rfl, by rw [hl]; rfl⟩
  | answered _ hheld => simp [hheld] at h0

/-- A byte held stays held until it is the answer. -/
theorem HeldByteMove.held_or_answered {m : Move} {d : Byte} (h : HeldByteMove m s t) (h0 : heldByte s.main = some d) :
    (heldByte t.main = some d ∧ t.returns = s.returns) ∨
      (m = .main ∧ t.main = .idle ∧ t.returns = s.returns ++ [.data d]) := by
  cases h with
  | stands hheld hret => exact .inl ⟨hheld.trans h0, hret⟩
  | otherAnswer hno => simp [h0] at hno
  | taken _ hat => simp [hat, heldByte] at h0
  | answered hm hheld hidle hret =>
    obtain rfl := Option.some.inj (hheld.symm.trans h0)
    exact .inr ⟨hm, hidle, hret⟩

/-- Only a byte held is answered as data. -/
theorem HeldByteMove.answers_held {m : Move} {d : Byte} (h : HeldByteMove m s t)
    (hd : t.returns = s.returns ++ [.data d]) : m = .main ∧ heldByte s.main = some d := by
  cases h with
  | stands _ hret => simp [hret] at hd
  | otherAnswer _ _ hret hr => exact absurd (by simpa [hret] using hd) (hr d)
  | taken _ _ _ hret => simp [hret] at hd
  | answered hm hheld _ hret =>
    obtain rfl : _ = d := by simpa [hret] using hd
    exact ⟨hm, hheld⟩

/-- At Rd3 the byte MAIN holds is still the oldest. -/
theorem held_is_oldest {h : Nat} {d : Byte} (hs : s.Inv) (hm : s.main = .atRd3 h d) : (s.live .rx).head? = some d := by
  obtain ⟨hne, hd⟩ := rd3_locals hs hm
  obtain ⟨rest, hl⟩ := live_eq_cons (buf := .rx) hs hne
  rw [hl, List.head?_cons]
  exact congrArg some (Memory.load_of_lookup hd)

/-- Settles O27: each move of an agent is simulated on the two lists of live bytes, and each does one of four things to
the byte MAIN holds. -/
theorem buffersAreQueues : Obligations.BuffersAreQueues := by
  intro m s t hs h
  have hheld := perform_heldByte h
  refine ⟨perform_live_rx hs h, perform_live_tx hs h, fun _ => hheld.takes_oldest hs, fun _ _ => held_is_oldest hs,
    fun _ => hheld.held_or_answered, fun _ => hheld.answers_held, ?_⟩
  rintro rfl hi hp hr
  exact onTxReady_sends_oldest hs ((takeInterrupt_of_invocable _ hi).symm.trans h) hp hr

end Sys2Proof.Proofs.Queues
end

section
/-!
PROOFS. The rows TX.PAUSE and TX.RESUME (R114, R115) and the forced go (R116).
-/

namespace Sys2Proof.Proofs.ControlBytes
open Sys2Proof Sys2Proof.Machine Sys2Proof.Proofs.Sending

variable {s : State}

theorem execTxPause_of_due (h : pauseDue s = true) : execTxPause s = .next (sendPause s) :=
  if_pos h

theorem execTxPause_of_not_due (h : ¬pauseDue s = true) : execTxPause s = .next s :=
  if_neg h

theorem execTxResume_of_due (h : resumeByteDue s = true) : execTxResume s = .next (sendResume s) :=
  if_pos h

theorem execTxResume_of_not_due (h : ¬resumeByteDue s = true) : execTxResume s = .next s :=
  if_neg h

/-- The complement of a control byte's condition: no flow control, or another state of the register. -/
theorem not_due_of_or {x : Bool} {f g : FlowCtrl} (h : x = false ∨ f ≠ g) : ¬(x = true ∧ f = g) := by
  rintro ⟨rfl, rfl⟩
  rcases h with h | h
  · exact absurd h (by decide)
  · exact h rfl

/-- Settles O28: each row sends its byte exactly where that byte is due. -/
theorem controlBytesAreSentInTheirRequestStates : Obligations.ControlBytesAreSentInTheirRequestStates := by
  intro s
  refine ⟨fun hx hf => ?_, fun hx hf => ?_, fun h => ?_, fun h => ?_⟩
  · exact execTxPause_of_due (pauseDue_eq_true.mpr ⟨hx, hf⟩)
  · exact execTxResume_of_due (resumeByteDue_eq_true.mpr ⟨hx, hf⟩)
  · exact execTxPause_of_not_due (mt pauseDue_eq_true.mp (not_due_of_or h))
  · exact execTxResume_of_not_due (mt resumeByteDue_eq_true.mp (not_due_of_or h))

/-- Settles O32: Rs3 tests nothing and writes the register and MAIN's return only. -/
theorem forcedGoIsABlindWrite : Obligations.ForcedGoIsABlindWrite := by
  intro s h hm
  rw [perform, mainStep, hm]
  rfl

end Sys2Proof.Proofs.ControlBytes
end

section
/-!
PROOFS. The cycle of the flow-control register under every step (R117): three edges belong to the handlers, and two
writes belong to MAIN, whose line may run several micro-steps.
-/

namespace Sys2Proof.Proofs.FlowCycle
open Sys2Proof Sys2Proof.Machine Sys2Proof.Claims
open Sys2Proof.Proofs.MicroSteps Sys2Proof.Proofs.Invariant Sys2Proof.Proofs.Sending Sys2Proof.Proofs.RingQueue

variable {s t u : State} {op : Option MainOp}

/-! ## The edges -/

/-- The edges the handlers and the transmitted bytes take, each with its cause and its effect (R112, R114, R115). -/
inductive HandlerEdge (s t : State) : Prop where
  | pauseRequest (b : Byte) (hx : s.params.xonxoffEnable = true) (hf : s.flowCtrl = .resumeAcknowledged)
      (ht : t.flowCtrl = .pauseRequested) (harm : t.txIrqEn = true)
      (hc : s.params.highWatermark ≤ count s.params.rxN t.rx.head t.rx.tail) (hs : ¬RingFull .rx s)
      (hrx : t.rx = (afterPush .rx b s).rx)
  | pauseSent (hx : s.params.xonxoffEnable = true) (hf : s.flowCtrl = .pauseRequested)
      (ht : t.flowCtrl = .pauseAcknowledged) (hw : t.wireOut = s.wireOut ++ [s.params.pauseByte]) (htx : t.tx = s.tx)
  | resumeSent (hx : s.params.xonxoffEnable = true) (hf : s.flowCtrl = .resumeRequested)
      (ht : t.flowCtrl = .resumeAcknowledged) (hw : t.wireOut = s.wireOut ++ [s.params.resumeByte])
      (htx : t.tx = s.tx)

/-- The two writes of MAIN's operation `op`: the resume request at Rd5 (R113) and the forced go at Rs3 (R116). -/
inductive MainEdge (op : Option MainOp) (s t : State) : Prop where
  | resumeRequest (hf : s.flowCtrl = .pauseAcknowledged) (ht : t.flowCtrl = .resumeRequested)
      (hw : t.wireOut = s.wireOut) (hop : op = some .readByte) (hc : LowCount s t)
  | forcedGo (ht : t.flowCtrl = .resumeAcknowledged) (hw : t.wireOut = s.wireOut) (hop : op = some .resetReadBuffer)

/-- Everything the register can do from `s` to `t` where MAIN runs micro-steps of `op`, if of any operation. -/
def FlowMove (op : Option MainOp) (s t : State) : Prop :=
  t.flowCtrl = s.flowCtrl ∨ HandlerEdge s t ∨ MainEdge op s t

theorem FlowMove.of_stands (h : t.flowCtrl = s.flowCtrl) : FlowMove op s t :=
  .inl h

theorem FlowMove.of_handler (h : t.flowCtrl = s.flowCtrl ∨ HandlerEdge s t) : FlowMove op s t :=
  h.imp_right .inl

theorem FlowMove.of_main (h : t.flowCtrl = s.flowCtrl ∨ MainEdge op s t) : FlowMove op s t :=
  h.imp_right .inr

/-- The edges do not speak of the script, the free values drawn and the bytes received. -/
theorem FlowMove.of_unread {script : List Line} {draws : Nat} {wireIn : List Byte}
    (h : FlowMove op { s with script := script, draws := draws, wireIn := wireIn } t) : FlowMove op s t := by
  rcases h with h | h | h
  · exact .of_stands h
  · refine .of_handler (.inr ?_)
    cases h with
    | pauseRequest b hx hf ht harm hc hs hrx => exact .pauseRequest b hx hf ht harm hc hs hrx
    | pauseSent hx hf ht hw htx => exact .pauseSent hx hf ht hw htx
    | resumeSent hx hf ht hw htx => exact .resumeSent hx hf ht hw htx
  · refine .of_main (.inr ?_)
    cases h with
    | resumeRequest hf ht hw hop hc => exact .resumeRequest hf ht hw hop hc
    | forcedGo ht hw hop => exact .forcedGo ht hw hop

/-! ## Runs of MAIN's micro-steps -/

/-- From `s` some micro-steps of MAIN, with no other agent between them, lead to `t`. -/
abbrev MainRun : State → State → Prop :=
  Relation.ReflTransGen fun s t => mainStep s = .next t

theorem mainRun_of_runMain {n : Nat} (h : runMain n s = .next t) : MainRun s t := by
  induction n generalizing s with
  | zero => cases h; exact .refl
  | succ n ih =>
    unfold runMain at h
    split at h
    · cases h; exact .refl
    · obtain ⟨u, hu, h⟩ := andThen_eq_next.mp h
      exact .head hu (ih h)

theorem mainRun_of_runTo {l : MicroStep} {n : Nat} (h : runTo l n s = .next t) : MainRun s t := by
  induction n generalizing s with
  | zero => cases h; exact .refl
  | succ n ih =>
    unfold runTo at h
    split at h
    · cases h; exact .refl
    · obtain ⟨u, hu, h⟩ := andThen_eq_next.mp h
      split at h
      · cases h; exact .single hu
      · exact .head hu (ih h)

theorem mainRun_wireOut (h : MainRun s t) : t.wireOut = s.wireOut := by
  induction h with
  | refl => rfl
  | tail _ hstep ih => rw [mainStep_wireOut hstep, ih]

/-- MAIN has no test or write of the register before it: it is idle, or only the arming of Rd6 is left. -/
def Settled (m : MainState) : Prop :=
  m = .idle ∨ ∃ h d h₂ c, m = .atRd6 h d h₂ c

theorem settled_mainStep (hm : Settled s.main) (h : mainStep s = .next t) :
    Settled t.main ∧ t.flowCtrl = s.flowCtrl ∧ t.rx = s.rx := by
  rcases hm with hm | ⟨_, _, _, _, hm⟩ <;> rw [mainStep, hm] at h <;> cases h
  · exact ⟨.inl hm, rfl, rfl⟩
  · exact ⟨.inl rfl, rfl, rfl⟩

/-- A run from a settled MAIN leaves the register and RX alone. -/
theorem mainRun_stands_of_settled (hm : Settled s.main) (h : MainRun s t) : t.flowCtrl = s.flowCtrl ∧ t.rx = s.rx := by
  induction h using Relation.ReflTransGen.head_induction_on with
  | refl => exact ⟨rfl, rfl⟩
  | head hstep _ ih =>
    obtain ⟨hu, hf, hrx⟩ := settled_mainStep hm hstep
    exact ⟨(ih hu).1.trans hf, (ih hu).2.trans hrx⟩

/-- From Rd5 on `read_byte` leaves RX alone. -/
theorem mainRun_rx_of_rd5 {h : Nat} {d : Byte} {h₂ c : Nat} (hm : s.main = .atRd5 h d h₂ c) (hr : MainRun s t) :
    t.rx = s.rx := by
  rcases hr.cases_head with rfl | ⟨u, hstep, hr⟩
  · rfl
  obtain ⟨hu, hrx⟩ : Settled u.main ∧ u.rx = s.rx := by
    rw [mainStep, hm] at hstep
    dsimp only [stepRd5] at hstep
    split at hstep <;> cases hstep
    · exact ⟨.inr ⟨_, _, _, _, rfl⟩, rfl⟩
    · exact ⟨.inl rfl, rfl⟩
  exact (mainRun_stands_of_settled hu hr).2.trans hrx

theorem lowCount_of_rd5 {h : Nat} {d : Byte} {h₂ c : Nat} (hm : s.main = .atRd5 h d h₂ c) :
    LowCount s t ↔ c < s.params.lowWatermark := by
  rw [LowCount, hm]

theorem lowCount_of_ne_rd5 (hm : s.main.mstep ≠ some .rd5) :
    LowCount s t ↔ count s.params.rxN t.rx.head t.rx.tail < s.params.lowWatermark := by
  unfold LowCount
  split
  · exact absurd (by rw [‹s.main = _›]; rfl) hm
  · exact Iff.rfl

/-- A first part that leaves the register and the wire alone, in the same operation. -/
theorem edge_of_edge_after {o : Option MainOp} (h : t.flowCtrl = u.flowCtrl ∨ MainEdge o u t)
    (hf : u.flowCtrl = s.flowCtrl) (hw : u.wireOut = s.wireOut) (hop : o = op)
    (hc : LowCount u t → LowCount s t) : t.flowCtrl = s.flowCtrl ∨ MainEdge op s t := by
  subst hop
  refine h.imp (·.trans hf) fun h => ?_
  cases h with
  | resumeRequest hf' ht hw' hop hc' => exact .resumeRequest (hf.symm.trans hf') ht (hw'.trans hw) hop (hc hc')
  | forcedGo ht hw' hop => exact .forcedGo ht (hw'.trans hw) hop

/-- Away from Rd5 on both sides, `LowCount` speaks of the last state only. -/
theorem lowCount_of_lowCount (hp : u.params = s.params) (hu : u.main.mstep ≠ some .rd5)
    (hs : s.main.mstep ≠ some .rd5) (h : LowCount u t) : LowCount s t := by
  rw [lowCount_of_ne_rd5 hs, ← hp]
  exact (lowCount_of_ne_rd5 hu).mp h

/-- A run of MAIN moves the register at most once, at Rd5 or at Rs3. -/
theorem mainRun_edge (h : MainRun s t) : t.flowCtrl = s.flowCtrl ∨ MainEdge s.main.op s t := by
  induction h using Relation.ReflTransGen.head_induction_on with
  | refl => exact .inl rfl
  | @head s u hstep hr ih =>
    have hw : t.wireOut = s.wireOut := (mainRun_wireOut hr).trans (mainStep_wireOut hstep)
    cases microStepTaken_of_mainStep hstep with
    | idle => exact ih
    | init | w3Abort | w6 | rd1Empty | rd3End | rd5End | rd6 | rs2End | rt =>
      -- the operation returns with the register as it was
      exact .inl (mainRun_stands_of_settled (.inl rfl) hr).1
    | rd5Request hm hc hf =>
      have ht := (mainRun_stands_of_settled (.inr ⟨_, _, _, _, rfl⟩) hr).1
      exact .inr (.resumeRequest hf ht hw (by rw [hm]; rfl) ((lowCount_of_rd5 hm).mpr hc))
    | rs3 hm =>
      have ht := (mainRun_stands_of_settled (.inl rfl) hr).1
      exact .inr (.forcedGo ht hw (by rw [hm]; rfl))
    | rd4 hm =>
      -- the count taken here is the occupancy at the end of the run
      refine edge_of_edge_after ih rfl rfl (by rw [hm]; rfl) fun hc => ?_
      rw [lowCount_of_ne_rd5 (by simp [hm, MainState.mstep]), mainRun_rx_of_rd5 rfl hr]
      exact (lowCount_of_rd5 (s := s.at _) rfl).mp hc
    | w1 hm | w2Space hm | w2Full hm | w3Again hm | w4 hm | w5 hm | rd1Data hm | rd2 hm | rd3Flow hm | rs1 hm
    | rs2Flow hm =>
      -- the operation goes on
      exact edge_of_edge_after ih rfl rfl (by rw [hm]; rfl)
        (lowCount_of_lowCount rfl (by simp [MainState.mstep]) (by simp [hm, MainState.mstep]))

/-- A run of an operation MAIN starts. -/
theorem flowMove_of_started {o : MainOp} (hm : s.main = .idle) (h : MainRun (s.at (entry o)) t) :
    FlowMove (some o) s t := by
  refine .of_main (edge_of_edge_after (mainRun_edge h) rfl rfl ?_ (lowCount_of_lowCount rfl ?_ ?_))
  · cases o <;> rfl
  · cases o <;> simp [entry, MainState.mstep]
  · simp [hm, MainState.mstep]

theorem wholeOp_flowMove {o : MainOp} {n : Nat} (h : wholeOp o n s = .next t) : FlowMove (some o) s t := by
  obtain ⟨hm, hr⟩ := wholeOp_eq_next h
  exact flowMove_of_started hm (mainRun_of_runMain hr)

/-! ## The handlers and the transmitted bytes -/

@[simp] theorem applyEffect_flowCtrl (e : Effect) (s : State) : (applyEffect e s).flowCtrl = s.flowCtrl := by
  cases e <;> rfl

@[simp] theorem disarmIfEmpty_flowCtrl (s : State) : (disarmIfEmpty s).flowCtrl = s.flowCtrl := by
  unfold disarmIfEmpty
  split <;> rfl

/-- An accepted push that reaches the high watermark requests a pause. -/
theorem forward_edge {b : Byte} (h : forward b s = .next t) : t.flowCtrl = s.flowCtrl ∨ HandlerEdge s t := by
  rcases forward_eq_next h with ⟨-, rfl⟩ | ⟨hs, -, rfl⟩
  · exact .inl rfl
  rcases pauseEvaluation_cases (s.setRing .rx (s.rx.pushed s.params.rxN b)) with ⟨hx, hc, hf, he⟩ | ⟨-, he⟩ <;> rw [he]
  · exact .inr (.pauseRequest b hx hf rfl rfl hc (isFull_eq_false_iff.mp hs) rfl)
  · exact .inl rfl

theorem onRxReady_flowMove (h : onRxReady s = .next t) (hi : s.invocable .onRxReady = true) : FlowMove op s t := by
  obtain ⟨b, rest, -, ⟨e, -, rfl⟩ | ⟨-, hf⟩⟩ := onRxReady_eq_next h hi
  · exact .of_stands (applyEffect_flowCtrl e _)
  · exact .of_unread (.of_handler (forward_edge hf))

/-- The pause byte goes out, and what follows leaves the register, the wire and TX alone. -/
theorem pauseSent_edge (hp : pauseDue s = true) (hf : t.flowCtrl = (sendPause s).flowCtrl)
    (hw : t.wireOut = (sendPause s).wireOut) (htx : t.tx = s.tx) : HandlerEdge s t :=
  have ⟨hx, hreq⟩ := pauseDue_eq_true.mp hp
  .pauseSent hx hreq hf hw htx

/-- The resume byte goes out, and what follows leaves the register, the wire and TX alone. -/
theorem resumeSent_edge (hr : resumeByteDue s = true) (hf : t.flowCtrl = (sendResume s).flowCtrl)
    (hw : t.wireOut = (sendResume s).wireOut) (htx : t.tx = s.tx) : HandlerEdge s t :=
  have ⟨hx, hreq⟩ := resumeByteDue_eq_true.mp hr
  .resumeSent hx hreq hf hw htx

theorem onTxReady_edge (h : onTxReady s = .next t) : t.flowCtrl = s.flowCtrl ∨ HandlerEdge s t := by
  obtain ⟨u, rfl, hu⟩ := onTxReady_eq_next h
  rcases hu with ⟨hp, rfl⟩ | ⟨-, hr, rfl⟩ | ⟨-, -, -, rfl⟩ | ⟨-, -, -, -, rfl⟩
  · exact .inr (pauseSent_edge hp (by simp) (by simp) (disarmIfEmpty_tx _))
  · exact .inr (resumeSent_edge hr (by simp) (by simp) (disarmIfEmpty_tx _))
  · exact .inl (by simp)
  · exact .inl (by simp)

theorem irqRx_flowMove (h : takeInterrupt .onRxReady onRxReady s = .next t) : FlowMove op s t := by
  rcases takeInterrupt_eq_next h with ⟨hi, h⟩ | ⟨-, rfl⟩
  · exact onRxReady_flowMove h hi
  · exact .of_stands rfl

theorem irqTx_flowMove (h : takeInterrupt .onTxReady onTxReady s = .next t) : FlowMove op s t := by
  rcases takeInterrupt_eq_next h with ⟨-, h⟩ | ⟨-, rfl⟩
  · exact .of_handler (onTxReady_edge h)
  · exact .of_stands rfl

theorem execTxPause_edge (h : execTxPause s = .next t) : t.flowCtrl = s.flowCtrl ∨ HandlerEdge s t := by
  unfold execTxPause at h
  split at h <;> cases h
  · exact .inr (pauseSent_edge ‹_› rfl rfl rfl)
  · exact .inl rfl

theorem execTxResume_edge (h : execTxResume s = .next t) : t.flowCtrl = s.flowCtrl ∨ HandlerEdge s t := by
  unfold execTxResume at h
  split at h <;> cases h
  · exact .inr (resumeSent_edge ‹_› rfl rfl rfl)
  · exact .inl rfl

/-! ## The instructions that leave the register alone -/

theorem execTxData_flowCtrl {v : Byte} (h : execTxData v s = .next t) : t.flowCtrl = s.flowCtrl := by
  rcases execTxData_eq_next h with rfl | ⟨-, -, -, -, -, rfl⟩ <;> rfl

theorem execTryPush_flowCtrl {buf : Buffer} {b : Byte} (h : execTryPush buf b s = .next t) :
    t.flowCtrl = s.flowCtrl := by
  obtain ⟨-, h⟩ := inContext_eq_next h
  obtain ⟨r, hr, ht⟩ := andThen_eq_next.mp h
  cases ht
  rcases ringPush_eq_next hr with ⟨-, rfl⟩ | ⟨-, -, rfl⟩
  · rfl
  · simp

theorem execTryPop_flowCtrl {buf : Buffer} (h : execTryPop buf s = .next t) : t.flowCtrl = s.flowCtrl := by
  obtain ⟨r, hr, rfl⟩ := execTryPop_eq_next h
  rcases ringPop_eq_next hr with ⟨-, rfl⟩ | ⟨-, -, rfl⟩
  · rfl
  · simp

theorem execReset_flowCtrl {buf : Buffer} (h : execReset buf s = .next t) : t.flowCtrl = s.flowCtrl := by
  obtain ⟨-, h⟩ := inContext_eq_next h
  cases h
  exact State.setTail_flowCtrl ..

theorem hardwareReceive_flowCtrl (s : State) : (hardwareReceive s).2.flowCtrl = s.flowCtrl := by
  unfold hardwareReceive
  split <;> rfl

theorem envReceive_flowCtrl (b : Byte) (s : State) : (envReceive b s).flowCtrl = s.flowCtrl := by
  unfold envReceive
  split <;> rfl

/-! ## Every instruction, every move, every step -/

theorem exec_flowMove {i : Instr} (h : exec i s = .next t) : FlowMove (instrOp i) s t := by
  cases i with
  | rxStatusReport | rxCycleStart | rxFeedHold | rxSafetyDoor | rxReset =>
    cases h
    exact .of_stands (applyEffect_flowCtrl _ s)
  | rxForward b => exact .of_handler (forward_edge h)
  | txPause => exact .of_handler (execTxPause_edge h)
  | txResume => exact .of_handler (execTxResume_edge h)
  | txData v => exact .of_stands (execTxData_flowCtrl h)
  | init | writeByte | readByte | resetReadBuffer | rtTestAndClear => exact wholeOp_flowMove h
  | onRxReady => exact irqRx_flowMove h
  | onTxReady => exact irqTx_flowMove h
  | tryPush buf b => exact .of_stands (execTryPush_flowCtrl h)
  | tryPop buf => exact .of_stands (execTryPop_flowCtrl h)
  | reset buf => exact .of_stands (execReset_flowCtrl h)
  | hardwareReceiveByte =>
    cases h
    exact .of_stands (hardwareReceive_flowCtrl s)
  | occupancy | classify | configureUart | hardwareSendByte | enableTxInterrupt | disableTxInterrupt
  | invokeEmergencyReset =>
    cases h
    exact .of_stands rfl

theorem perform_flowMove {m : Move} (h : perform m s = .next t) :
    FlowMove (if m = .main then s.main.op else none) s t := by
  cases m with
  | start o =>
    obtain ⟨-, rfl⟩ := startOp_eq_next h
    exact .of_stands rfl
  | main => exact .of_main (mainRun_edge (.single h))
  | irqRx => exact irqRx_flowMove h
  | irqTx => exact irqTx_flowMove h
  | envRx b =>
    cases h
    exact .of_stands (envReceive_flowCtrl b s)
  | envTxReady | envAbort =>
    cases h
    exact .of_stands rfl

theorem advancedOp_of_word {bytes : List Byte} {rest : List Line} {i : Instr} (hs : s.script = .word bytes :: rest)
    (hd : decode s.params bytes = .ok i) : advancedOp s = instrOp i := by
  simp only [advancedOp, hs, hd]

theorem advancedOp_of_move {m : Move} {rest : List Line} (hs : s.script = .move m :: rest) :
    advancedOp s = if m = .main then s.main.op else none := by
  cases m <;> simp [advancedOp, hs]

/-- Whatever line runs, MAIN's edges are those of the operation the line advances. -/
theorem runLine_flowMove {l : Line} {rest : List Line} (hs : s.script = l :: rest)
    (h : runLine l { s with script := rest } = .next t) : FlowMove (advancedOp s) s t := by
  refine .of_unread (script := rest) (draws := s.draws) (wireIn := s.wireIn) ?_
  cases l with
  | word bytes =>
    dsimp only [runLine] at h
    split at h
    · rw [advancedOp_of_word hs ‹_›]
      exact exec_flowMove h
    · cases h
  | move m =>
    rw [advancedOp_of_move hs]
    exact perform_flowMove h
  | opTo o label =>
    obtain ⟨u, hu, hr⟩ := andThen_eq_next.mp h
    obtain ⟨hm, rfl⟩ := startOp_eq_next hu
    have hop : advancedOp s = some o := by simp only [advancedOp, hs]
    rw [hop]
    exact flowMove_of_started hm (mainRun_of_runTo hr)
  | continueTo label =>
    have hop : advancedOp s = s.main.op := by simp only [advancedOp, hs]
    rw [hop]
    exact .of_main (mainRun_edge (mainRun_of_runTo h))
  | continueRest =>
    have hop : advancedOp s = s.main.op := by simp only [advancedOp, hs]
    rw [hop]
    exact .of_main (mainRun_edge (mainRun_of_runMain h))

theorem freeStep_flowMove (hs : s.script = []) (h : freeStep s = .next t) : FlowMove (advancedOp s) s t := by
  have hop : advancedOp s = if Config.freeMove s.draws = .main then s.main.op else none := by
    simp only [advancedOp, hs]
  rw [hop]
  unfold freeStep at h
  dsimp only at h
  split at h
  · exact .of_unread (draws := s.draws + 1) (perform_flowMove h)
  · cases h
    exact .of_stands rfl

theorem step_flowMove (h : step s = .next t) : FlowMove (advancedOp s) s t := by
  unfold step at h
  split at h
  case isFalse => cases h
  split at h
  · exact runLine_flowMove ‹_› h
  · exact freeStep_flowMove ‹_› h

/-- Settles O30: a step is a line or a free move; its handlers take three of the edges, its run of MAIN the others. -/
theorem flowControlMovesAlongTheCycle : Obligations.FlowControlMovesAlongTheCycle := by
  intro s t h hne
  rcases step_flowMove h with hs | hh | hm
  · exact absurd hs hne
  · cases hh with
    | pauseRequest b hx hf ht harm hc hs hrx => exact .inl ⟨hx, hf, ht, harm, hc, hs, b, hrx⟩
    | pauseSent hx hf ht hw htx => exact .inr (.inl ⟨hx, hf, ht, hw, htx⟩)
    | resumeSent hx hf ht hw htx => exact .inr (.inr (.inr (.inl ⟨hx, hf, ht, hw, htx⟩)))
  · cases hm with
    | resumeRequest hf ht hw hop hc => exact .inr (.inr (.inl ⟨hf, ht, hw, hop, hc⟩))
    | forcedGo ht hw hop => exact .inr (.inr (.inr (.inr ⟨ht, hw, hop⟩)))

end Sys2Proof.Proofs.FlowCycle
end

section
/-!
PROOFS. The realtime command interceptor: `classify` and the effects by themselves (R130 to R136), and the atomic
test-and-clear of the latch as one instruction (R141).
-/

namespace Sys2Proof.Proofs.Interceptor
open Sys2Proof Sys2Proof.Machine

/-! ## classify and the effects -/

/-- Settles O33: the answer recorded is `classify`'s chain of equalities. -/
theorem classifyByTheFiveCommands : Obligations.ClassifyByTheFiveCommands :=
  fun _ _ => rfl

/-- Settles O34: each row applies its own effect, which is one write to the latch. -/
theorem flagEffectsSetOneFlag : Obligations.FlagEffectsSetOneFlag :=
  fun _ => ⟨rfl, rfl, rfl, rfl⟩

/-- Settles O35: the effect of the reset command is one call of the reset routine (R136, D19). -/
theorem resetCommandCallsTheRoutineOnce : Obligations.ResetCommandCallsTheRoutineOnce :=
  fun _ => rfl

/-! ## A whole operation of MAIN from idle -/

variable {s : State}

/-- From idle an operation starts at its entry, and its micro-steps run on from there. -/
theorem wholeOp_of_idle (h : s.main = .idle) (op : MainOp) (n : Nat) :
    wholeOp op n s = runMain n (s.at (entry op)) := by
  rw [wholeOp, startOp, inContext_main_idle _ h, andThen_next]

/-- Where MAIN was idle to begin with, its return to idle changes nothing (R31). -/
theorem at_idle_of_idle (h : s.main = .idle) : s.at .idle = s := by
  rw [State.at, ← h]

/-- From idle, the single micro-step of `rt_test_and_clear` clears the mask and returns what it tested. -/
theorem exec_rtTestAndClear_of_idle (h : s.main = .idle) (m : RtFlags) :
    exec (.rtTestAndClear m) s = .next ((rtCleared m s).record (.flags (rtTested m s))) := by
  have hidle : ((rtCleared m s).record (.flags (rtTested m s))).main = .idle := h
  calc exec (.rtTestAndClear m) s
      = runMain 1 (s.at (.atRt m)) := wholeOp_of_idle h (.rtTestAndClear m) 1
    _ = .next (((rtCleared m s).record (.flags (rtTested m s))).at .idle) := rfl
    _ = .next ((rtCleared m s).record (.flags (rtTested m s))) := by rw [at_idle_of_idle hidle]

/-! ## Flag by flag -/

/-- The four flags of the latch (R29), each as what reads it. -/
def latchFlags : List (RtFlags → Bool) :=
  [RtFlags.statusReport, RtFlags.cycleStart, RtFlags.feedHold, RtFlags.safetyDoor]

theorem mem_latchFlags {flag : RtFlags → Bool} :
    flag ∈ latchFlags ↔ flag = RtFlags.statusReport ∨ flag = RtFlags.cycleStart ∨ flag = RtFlags.feedHold ∨
      flag = RtFlags.safetyDoor := by
  simp [latchFlags]

theorem flag_flagsAnd {flag : RtFlags → Bool} (hf : flag ∈ latchFlags) (a b : RtFlags) :
    flag (flagsAnd a b) = (flag a && flag b) := by
  rcases mem_latchFlags.mp hf with rfl | rfl | rfl | rfl <;> rfl

theorem flag_flagsDiff {flag : RtFlags → Bool} (hf : flag ∈ latchFlags) (a b : RtFlags) :
    flag (flagsDiff a b) = (flag a && !flag b) := by
  rcases mem_latchFlags.mp hf with rfl | rfl | rfl | rfl <;> rfl

/-- Settles O38: the answer is the mask and the latch, what stays is the latch without the mask, flag by flag. -/
theorem testAndClearAnswersAndClearsTheMask : Obligations.TestAndClearAnswersAndClearsTheMask := by
  intro s m h
  refine ⟨flagsAnd m s.rtPending, flagsDiff s.rtPending m, exec_rtTestAndClear_of_idle h m, fun flag hf => ?_⟩
  rw [flag_flagsAnd hf, flag_flagsDiff hf]
  refine ⟨?answered, ?cleared, ?kept⟩
  case answered => exact Bool.and_eq_true_iff
  case cleared =>
    intro hm
    rw [hm, Bool.not_true, Bool.and_false]
  case kept =>
    intro hm
    rw [hm, Bool.not_false, Bool.and_true]

end Sys2Proof.Proofs.Interceptor
end

section
/-!
PROOFS. Each micro-step of MAIN by itself (R152, R157, R162): every branch of `MicroStepTaken` is what `mainStep` does.
-/

namespace Sys2Proof.Proofs.MicroStepClauses
open Sys2Proof Sys2Proof.Machine Sys2Proof.Proofs.MicroSteps

variable {s t : State}

theorem resumeDue_eq_true {c : Nat} :
    resumeDue c s = true ↔ c < s.params.lowWatermark ∧ s.flowCtrl = .pauseAcknowledged := by
  simp [resumeDue]

theorem resumeDue_eq_false {c : Nat} :
    resumeDue c s = false ↔ ¬(c < s.params.lowWatermark ∧ s.flowCtrl = .pauseAcknowledged) := by
  rw [← resumeDue_eq_true, Bool.not_eq_true]

/-- The converse of `microStepTaken_of_mainStep`: each guard selects its branch. -/
theorem mainStep_of_microStepTaken (h : MicroStepTaken s t) : mainStep s = .next t := by
  cases h with
  | idle hm => rw [mainStep, hm]
  | init hm | w1 hm | w5 hm | w6 hm | rd4 hm | rd6 hm | rs1 hm | rs3 hm | rt hm =>
    -- one branch only
    rw [mainStep, hm]
    rfl
  | w2Space hm hs => rw [mainStep, hm]; exact if_pos hs
  | w2Full hm hf => rw [mainStep, hm]; exact if_neg (not_not.mpr hf)
  | w3Abort hm ha => rw [mainStep, hm]; exact if_pos ha
  | w3Again hm ha => rw [mainStep, hm]; exact if_neg (ne_true_of_eq_false ha)
  | w4 hm hi =>
    rw [mainStep, hm]
    dsimp only [stepW4, headIndexed, State.ring_tx]
    rw [memWrite_of_lt (buf := .tx) _ hi]
    rfl
  | rd1Empty hm he => rw [mainStep, hm]; exact if_pos he
  | rd1Data hm he => rw [mainStep, hm]; exact if_neg he
  | rd2 hm hi =>
    rw [mainStep, hm]
    dsimp only [stepRd2, tailIndexed, State.ring_rx]
    rw [memRead_of_lt (buf := .rx) hi]
    rfl
  | rd3Flow hm hx | rs2Flow hm hx => rw [mainStep, hm]; exact if_pos hx
  | rd3End hm hx | rs2End hm hx => rw [mainStep, hm]; exact if_neg (ne_true_of_eq_false hx)
  | rd5Request hm hc hf => rw [mainStep, hm]; exact if_pos (resumeDue_eq_true.mpr ⟨hc, hf⟩)
  | rd5End hm hr => rw [mainStep, hm]; exact if_neg (ne_true_of_eq_false hr)

/-- MAIN's move is its micro-step. -/
theorem perform_main (h : MicroStepTaken s t) : perform .main s = .next t :=
  mainStep_of_microStepTaken h

/-- Settles O57: each clause is a branch of W1 to W6; the store of W4 is seen at the head alone. -/
theorem writeByteTakesItsMicroSteps : Obligations.WriteByteTakesItsMicroSteps :=
  fun s b _ _ _ =>
    ⟨fun hm => perform_main (.w1 hm),
      fun hm hs => perform_main (.w2Space hm hs),
      fun hm hf => perform_main (.w2Full hm hf),
      fun hm ha => perform_main (.w3Again hm ha),
      fun hm ha => perform_main (.w3Abort hm ha),
      fun hm hi => ⟨perform_main (.w4 hm hi), fun i => Memory.load_write .tx s.tx.storage s.tx.head i b⟩,
      fun hm => perform_main (.w5 hm),
      fun hm => perform_main (.w6 hm)⟩

/-- Settles O58: each clause is a branch of Rd1 to Rd6. -/
theorem readByteTakesItsMicroSteps : Obligations.ReadByteTakesItsMicroSteps :=
  fun _ _ _ _ _ =>
    ⟨fun hm he => perform_main (.rd1Empty hm he),
      fun hm he => perform_main (.rd1Data hm he),
      fun hm hi => perform_main (.rd2 hm hi),
      fun hm hx => perform_main (.rd3Flow hm hx),
      fun hm hx => perform_main (.rd3End hm hx),
      fun hm => perform_main (.rd4 hm),
      fun hm hc hf => perform_main (.rd5Request hm hc hf),
      fun hm hr => perform_main (.rd5End hm (resumeDue_eq_false.mpr hr)),
      fun hm => perform_main (.rd6 hm)⟩

/-- Settles O59: each clause is a branch of Rs1 to Rs3, and the discard of Rs2 is at the head MAIN holds. -/
theorem resetReadBufferTakesItsMicroSteps : Obligations.ResetReadBufferTakesItsMicroSteps :=
  fun _ _ =>
    ⟨fun hm => perform_main (.rs1 hm),
      fun hm hx => perform_main (.rs2Flow hm hx),
      fun hm hx => perform_main (.rs2End hm hx),
      fun hm => perform_main (.rs3 hm)⟩

/-- Settles O43: W2 finds TX full, and W3 goes back to W2 with the snapshot W2 took, or returns. -/
theorem waitingWriterTurnsOrAborts : Obligations.WaitingWriterTurnsOrAborts := by
  intro s b nh t hm hf
  rw [perform_main (.w2Full hm hf), andThen_next]
  exact ⟨fun ha => perform_main (.w3Again rfl ha), fun ha => perform_main (.w3Abort rfl ha)⟩

end Sys2Proof.Proofs.MicroStepClauses
end

section
/-!
PROOFS. MAIN's operations with no handler inside them (R150, R152, R157, R162; R86): chains of micro-steps from idle.
-/

namespace Sys2Proof.Proofs.MainOperations
open Sys2Proof Sys2Proof.Machine Sys2Proof.Claims
open Sys2Proof.Proofs.MicroSteps Sys2Proof.Proofs.MicroStepClauses Sys2Proof.Proofs.Invariant
open Sys2Proof.Proofs.RingPrimitives Sys2Proof.Proofs.Interceptor

variable {s t : State}

/-! ## Runs of MAIN -/

theorem runMain_succ_of_busy {n : Nat} (hm : s.main ≠ .idle) :
    runMain (n + 1) s = andThen (mainStep s) (runMain n) := by
  rw [runMain]
  split
  · exact absurd ‹_› hm
  · rfl

/-- A run goes on from the state after its first micro-step. -/
theorem runMain_of_taken {n : Nat} (h : MicroStepTaken s t) : runMain (n + 1) s = runMain n t := by
  have hstep := mainStep_of_microStepTaken h
  by_cases hm : s.main = .idle
  · obtain rfl : s = t := by simpa only [mainStep, hm, Host.Outcome.next.injEq] using hstep
    rw [runMain_of_idle _ hm, runMain_of_idle _ hm]
  · rw [runMain_succ_of_busy hm, hstep, andThen_next]

/-- A run stops where a micro-step returns the operation. -/
theorem runMain_of_return {n : Nat} (h : MicroStepTaken s t) (hm : t.main = .idle) : runMain (n + 1) s = .next t := by
  rw [runMain_of_taken h, runMain_of_idle n hm]

/-- An operation started from idle and run to its return leaves MAIN idle, as it was. -/
theorem wholeOp_of_run {op : MainOp} {n : Nat} (hm : s.main = .idle)
    (hr : runMain n (s.at (entry op)) = .next (t.at .idle)) (ht : t.main = .idle) : wholeOp op n s = .next t := by
  rw [wholeOp_of_idle hm, hr, at_idle_of_idle ht]

/-! ## init -/

/-- Settles O39: the single micro-step of `init` makes `uart` present, which both interrupts ask for. -/
theorem initMakesTheInterruptsLive : Obligations.InitMakesTheInterruptsLive := by
  intro s baud hm
  have hrun : runMain 1 (s.at (.atInit baud)) = .next ((configureUart baud s).at .idle) :=
    runMain_of_return (.init rfl) rfl
  refine ⟨wholeOp_of_run hm hrun hm, rfl, fun hu => ⟨?_, ?_⟩⟩
  · simp [State.invocable, State.enabled, hu]
  · simp [State.invocable, State.enabled, hu]

/-! ## write_byte -/

/-- The state after `write_byte` has queued its byte: pushed, armed, answered. -/
def afterWrite (b : Byte) (s : State) : State :=
  (enableTx (afterPush .tx b s)).record .done

/-- From W4 on: store at the head, publish, arm, return. -/
theorem runMain_of_w4 {b : Byte} {t₀ n : Nat} (hm : s.main = .atW4 b (s.next .tx s.tx.head) t₀)
    (hh : s.tx.head < s.params.txN) : runMain (n + 3) s = .next ((afterWrite b s).at .idle) :=
  calc runMain (n + 3) s
      = runMain (n + 2) ((s.setRing .tx { s.tx with storage := s.tx.storage.write s.tx.head b }).at
          (.atW5 b (s.next .tx s.tx.head) t₀)) := runMain_of_taken (.w4 hm hh)
    _ = runMain (n + 1) ((afterPush .tx b s).at (.atW6 b (s.next .tx s.tx.head) t₀)) := runMain_of_taken (.w5 rfl)
    _ = .next ((afterWrite b s).at .idle) := runMain_of_return (.w6 rfl) rfl

theorem runMain_writeByte_of_space {b : Byte} (hf : ¬RingFull .tx s) (hh : s.tx.head < s.params.txN) :
    runMain 5 (s.at (.atW1 b)) = .next ((afterWrite b s).at .idle) :=
  calc runMain 5 (s.at (.atW1 b))
      = runMain 4 (s.at (.atW2 b (s.next .tx s.tx.head) none)) := runMain_of_taken (.w1 rfl)
    _ = runMain 3 (s.at (.atW4 b (s.next .tx s.tx.head) s.tx.tail)) := runMain_of_taken (.w2Space rfl hf)
    _ = .next ((afterWrite b s).at .idle) := runMain_of_w4 (n := 0) rfl hh

/-- With TX full the first turn leads to W3. -/
theorem runMain_writeByte_of_full {b : Byte} {n : Nat} (hf : RingFull .tx s) :
    runMain (n + 2) (s.at (.atW1 b)) = runMain n (s.at (.atW3 b (s.next .tx s.tx.head) s.tx.tail)) :=
  calc runMain (n + 2) (s.at (.atW1 b))
      = runMain (n + 1) (s.at (.atW2 b (s.next .tx s.tx.head) none)) := runMain_of_taken (.w1 rfl)
    _ = runMain n (s.at (.atW3 b (s.next .tx s.tx.head) s.tx.tail)) := runMain_of_taken (.w2Full rfl hf)

theorem runMain_writeByte_of_abort {b : Byte} (hf : RingFull .tx s) (ha : s.abort = true) :
    runMain 5 (s.at (.atW1 b)) = .next ((s.record .aborted).at .idle) :=
  (runMain_writeByte_of_full hf).trans (runMain_of_return (.w3Abort rfl ha) rfl)

/-- Five micro-steps end after the second turn, at W2. -/
theorem runMain_writeByte_of_wait {b : Byte} (hf : RingFull .tx s) (ha : s.abort = false) :
    runMain 5 (s.at (.atW1 b)) = .next (s.at (.atW2 b (s.next .tx s.tx.head) (some s.tx.tail))) :=
  calc runMain 5 (s.at (.atW1 b))
      = runMain 3 (s.at (.atW3 b (s.next .tx s.tx.head) s.tx.tail)) := runMain_writeByte_of_full hf
    _ = runMain 2 (s.at (.atW2 b (s.next .tx s.tx.head) (some s.tx.tail))) := runMain_of_taken (.w3Again rfl ha)
    _ = runMain 1 (s.at (.atW3 b (s.next .tx s.tx.head) s.tx.tail)) := runMain_of_taken (.w2Full rfl hf)
    _ = runMain 0 (s.at (.atW2 b (s.next .tx s.tx.head) (some s.tx.tail))) := runMain_of_taken (.w3Again rfl ha)

/-- Settles O40: W2's full test and W3's sample of `abort` select one of three runs. -/
theorem writeByteQueuesAbortsOrWaits : Obligations.WriteByteQueuesAbortsOrWaits := by
  intro s b hm hh
  refine ⟨fun hf => ⟨?queued, slot_pushed s .tx b, slot_setRing_of_ne (buf := .tx) _ (by decide)⟩,
    fun hf ha => ?aborted, fun hf ha => ?waits⟩
  case queued => exact wholeOp_of_run (t := afterWrite b s) hm (runMain_writeByte_of_space hf hh) hm
  case aborted => exact wholeOp_of_run (t := s.record .aborted) hm (runMain_writeByte_of_abort hf ha) hm
  case waits => exact (wholeOp_of_idle hm _ _).trans (runMain_writeByte_of_wait hf ha)

/-- Settles O44: at W4 the invariant has the writer's index as the successor of the head, and TX not full. -/
theorem writerPastTheTestCompletes : Obligations.WriterPastTheTestCompletes := by
  intro s b nh t hs hm
  obtain ⟨hb, hl⟩ := inv_iff.mp hs
  obtain ⟨rfl, hf⟩ : nh = s.next .tx s.tx.head ∧ nh ≠ s.tx.tail := (localsOk_iff_at hm).mp hl
  exact ⟨runMain_of_w4 (n := 3) hm (hb.rings .tx).head_lt, hf⟩

/-! ## read_byte -/

/-- Up to Rd3, with RX not empty, `read_byte` reads the byte at the tail. -/
theorem runMain_readByte_to_rd3 {n : Nat} (he : ¬RingEmpty .rx s) (ht : s.rx.tail < s.params.rxN) :
    runMain (n + 2) (s.at .atRd1) = runMain n (s.at (.atRd3 s.rx.head (s.slot .rx s.rx.tail))) :=
  calc runMain (n + 2) (s.at .atRd1)
      = runMain (n + 1) (s.at (.atRd2 s.rx.head)) := runMain_of_taken (.rd1Data rfl he)
    _ = runMain n (s.at (.atRd3 s.rx.head (s.slot .rx s.rx.tail))) := runMain_of_taken (.rd2 rfl ht)

/-- With flow control, Rd3 and Rd4 pop and count what is left. -/
theorem runMain_to_rd5 {n h : Nat} {d : Byte} (hx : s.params.xonxoffEnable = true) :
    runMain (n + 2) (s.at (.atRd3 h d)) =
      runMain n ((afterPop .rx s).at (.atRd5 h d s.rx.head ((afterPop .rx s).occupancy .rx))) :=
  calc runMain (n + 2) (s.at (.atRd3 h d))
      = runMain (n + 1) ((afterPop .rx s).at (.atRd4 h d)) := runMain_of_taken (.rd3Flow rfl hx)
    _ = runMain n ((afterPop .rx s).at (.atRd5 h d s.rx.head ((afterPop .rx s).occupancy .rx))) :=
        runMain_of_taken (.rd4 rfl)

/-- The condition of the resume request in the words of R113, for the count after the pop. -/
def ResumeCondition (s : State) : Prop :=
  s.params.xonxoffEnable = true ∧ (afterPop .rx s).occupancy .rx < s.params.lowWatermark ∧
    s.flowCtrl = .pauseAcknowledged

/-- From Rd3 on, under the condition: pop, request, arm, return. -/
theorem runMain_of_rd3_request {h : Nat} {d : Byte} (hr : ResumeCondition s) :
    runMain 4 (s.at (.atRd3 h d)) =
      .next (State.at { afterPop .rx s with
        flowCtrl := .resumeRequested, txIrqEn := true, returns := s.returns ++ [.data d] } .idle) := by
  obtain ⟨hx, hc, hf⟩ := hr
  calc runMain 4 (s.at (.atRd3 h d))
      = runMain 2 ((afterPop .rx s).at (.atRd5 h d s.rx.head ((afterPop .rx s).occupancy .rx))) := runMain_to_rd5 hx
    _ = runMain 1 (State.at { afterPop .rx s with flowCtrl := .resumeRequested }
          (.atRd6 h d s.rx.head ((afterPop .rx s).occupancy .rx))) := runMain_of_taken (.rd5Request rfl hc hf)
    _ = _ := runMain_of_return (.rd6 rfl) rfl

/-- From Rd3 on, without the condition: pop and return, at Rd3 or at Rd5. -/
theorem runMain_of_rd3_no_request {h : Nat} {d : Byte} (hr : ¬ResumeCondition s) :
    runMain 4 (s.at (.atRd3 h d)) = .next (((afterPop .rx s).record (.data d)).at .idle) := by
  cases hx : s.params.xonxoffEnable with
  | false => exact runMain_of_return (.rd3End rfl hx) rfl
  | true =>
    rw [runMain_to_rd5 hx]
    exact runMain_of_return (.rd5End rfl (resumeDue_eq_false.mpr fun hc => hr ⟨hx, hc⟩)) rfl

/-- Settles O45: the empty test of Rd1 and the condition of R113 select one of three runs. -/
theorem readBytePopsAndRequestsResume : Obligations.ReadBytePopsAndRequestsResume := by
  intro s hm ht
  refine ⟨fun he => ?empty, fun he => ⟨fun hr => ?request, fun hr => ?noRequest,
    fun other i => slot_setTail other _ i⟩⟩
  case empty => exact wholeOp_of_run (t := s.record .noData) hm (runMain_of_return (.rd1Empty rfl he) rfl) hm
  case request =>
    exact wholeOp_of_run hm ((runMain_readByte_to_rd3 he ht).trans (runMain_of_rd3_request hr)) hm
  case noRequest =>
    exact wholeOp_of_run (t := (afterPop .rx s).record _) hm
      ((runMain_readByte_to_rd3 he ht).trans (runMain_of_rd3_no_request hr)) hm

/-! ## reset_read_buffer -/

/-- The state after `reset_read_buffer`: RX emptied by moving the tail, the register forced to go where flow control is
built in. -/
def afterReadReset (s : State) : State :=
  { s with
    rx := { s.rx with tail := s.rx.head }
    flowCtrl := if s.params.xonxoffEnable then .resumeAcknowledged else s.flowCtrl }

theorem afterReadReset_of_flow (hx : s.params.xonxoffEnable = true) :
    afterReadReset s = { s.setTail .rx s.rx.head with flowCtrl := .resumeAcknowledged } := by
  rw [afterReadReset, if_pos hx]
  rfl

theorem afterReadReset_of_no_flow (hx : s.params.xonxoffEnable = false) :
    afterReadReset s = s.setTail .rx s.rx.head := by
  rw [afterReadReset, if_neg (ne_true_of_eq_false hx)]
  rfl

theorem runMain_resetReadBuffer (s : State) : runMain 3 (s.at .atRs1) = .next ((afterReadReset s).at .idle) := by
  have hsnapshot : runMain 3 (s.at .atRs1) = runMain 2 (s.at (.atRs2 s.rx.head)) := runMain_of_taken (.rs1 rfl)
  rw [hsnapshot]
  cases hx : s.params.xonxoffEnable with
  | false =>
    rw [afterReadReset_of_no_flow hx]
    exact runMain_of_return (.rs2End rfl hx) rfl
  | true =>
    have hdiscard : runMain 2 (s.at (.atRs2 s.rx.head)) =
        runMain 1 ((s.setTail .rx s.rx.head).at (.atRs3 s.rx.head)) := runMain_of_taken (.rs2Flow rfl hx)
    rw [hdiscard, afterReadReset_of_flow hx]
    exact runMain_of_return (.rs3 rfl) rfl

theorem exec_resetReadBuffer (hm : s.main = .idle) : exec .resetReadBuffer s = .next (afterReadReset s) :=
  wholeOp_of_run hm (runMain_resetReadBuffer s) hm

theorem afterReadReset_afterReadReset (s : State) : afterReadReset (afterReadReset s) = afterReadReset s := by
  unfold afterReadReset
  split <;> rfl

/-- Settles O46: with the tail at the head RX is empty, and a second reset finds both the tail and the register so. -/
theorem resetReadBufferDiscardsAndForcesGo : Obligations.ResetReadBufferDiscardsAndForcesGo := by
  intro s hm
  refine ⟨exec_resetReadBuffer hm, fun t h => ?_⟩
  obtain rfl : afterReadReset s = t := Host.Outcome.next.inj ((exec_resetReadBuffer hm).symm.trans h)
  refine ⟨count_self _ _, ?idempotent, fun buf i => ?slots⟩
  case idempotent =>
    have hagain := exec_resetReadBuffer (s := afterReadReset s) hm
    rwa [afterReadReset_afterReadReset] at hagain
  case slots => cases buf <;> rfl

end Sys2Proof.Proofs.MainOperations
end

section
/-!
PROOFS. The two handlers (R166, R170) and the rows of a forwarded byte and of a data byte: the RX handler does what the
row of its byte does, the TX handler sends one byte and tests for empty.
-/

namespace Sys2Proof.Proofs.Handlers
open Sys2Proof Sys2Proof.Machine Sys2Proof.Claims
open Sys2Proof.Proofs.RingQueue Sys2Proof.Proofs.RingPrimitives Sys2Proof.Proofs.Encoding Sys2Proof.Proofs.Sending

variable {s : State} {b v : Byte}

/-! ## A forwarded byte -/

theorem forward_of_full (hf : RingFull .rx s) : forward b s = .next s := by
  rw [forward, ringPush_of_full b (isFull_iff.mpr hf)]
  rfl

theorem forward_of_space (hf : ¬RingFull .rx s) (hh : s.rx.head < s.params.rxN) :
    forward b s = .next (pauseEvaluation (afterPush .rx b s)) := by
  rw [forward, ringPush_of_space b (isFull_eq_false_iff.mpr hf) hh]
  rfl

theorem pauseEvaluation_of_condition (h : PauseCondition s) :
    pauseEvaluation s = { s with flowCtrl := .pauseRequested, txIrqEn := true } :=
  if_pos h

theorem pauseEvaluation_of_no_condition (h : ¬PauseCondition s) : pauseEvaluation s = s :=
  if_neg h

theorem forwardAnswer_forward (b : Byte) (hh : s.rx.head < s.params.rxN) : ForwardAnswer b s (forward b s) := by
  refine ⟨forward_of_full, fun hf hc => ?_, fun hf hc => ?_⟩
  · rw [forward_of_space hf hh, pauseEvaluation_of_no_condition hc]
  · rw [forward_of_space hf hh, pauseEvaluation_of_condition hc]

/-- A push into RX is seen in no slot of TX. -/
theorem slot_tx_afterPush_rx (s : State) (b : Byte) (i : Nat) : (afterPush .rx b s).slot .tx i = s.slot .tx i :=
  slot_setRing_of_ne _ (by decide) i

/-- Settles O36: the full test of the push, then the condition of R112 after it. -/
theorem forwardedBytesArePushedOrDropped : Obligations.ForwardedBytesArePushedOrDropped :=
  fun s b hh => ⟨forwardAnswer_forward b hh, fun _ => slot_pushed s .rx b, slot_tx_afterPush_rx s b⟩

/-! ## on_rx_ready -/

/-- `classify` and the decoder of received bytes are one chain of tests (R72, R130). -/
theorem applyAction_classify (p : Params) (b : Byte) (s : State) :
    applyAction (classify p b) s = exec (rxInstr p b) s := by
  unfold classify rxInstr
  split_ifs <;> rfl

/-- `on_rx_ready` with a byte on the wire consumes it and does what the byte's row does. -/
theorem exec_onRxReady {rest : List Byte} (hu : s.uart.isSome = true) (hw : s.wireIn = b :: rest) :
    exec .onRxReady s = exec (rxInstr s.params b) { s with wireIn := rest } := by
  have hi : s.invocable .onRxReady = true := by simp [State.invocable, State.enabled, State.pending, hu, hw]
  refine (takeInterrupt_of_invocable onRxReady hi).trans ?_
  rw [onRxReady, hardwareReceive, hw]
  exact applyAction_classify s.params b _

/-- Settles O47: the row of each command byte is its effect, and that of any other byte the forwarding. -/
theorem onRxReadyConsumesOneByte : Obligations.OnRxReadyConsumesOneByte := by
  intro s b rest hwf hu hw hh
  have hcommand (e : Effect) (h : b = Latch.commandOf s.params e) :
      exec .onRxReady s = .next (applyEffect e { s with wireIn := rest }) := by
    rw [exec_onRxReady hu hw, h, rxInstr_commandOf (commands_nodup_and_controls_ne_of_wf hwf).1 e]
    cases e <;> rfl
  refine ⟨hcommand .statusReport, hcommand .cycleStart, hcommand .feedHold, hcommand .safetyDoor, hcommand .reset,
    fun hno => ?forwarded, slot_pushed { s with wireIn := rest } .rx b, slot_tx_afterPush_rx _ b⟩
  case forwarded =>
    rw [exec_onRxReady hu hw, rxInstr_of_noCommand hno]
    exact forwardAnswer_forward b hh

/-! ## The bytes TX sends -/

/-- The converse of `no_request_of_not_due`. -/
theorem not_due_of_no_request (h : s.params.xonxoffEnable = false ∨ s.flowCtrl.isRequest = false) :
    pauseDue s = false ∧ resumeByteDue s = false := by
  rcases h with hx | hr
  · simp [pauseDue, resumeByteDue, hx]
  · obtain ⟨hp, hr⟩ := FlowCtrl.isRequest_eq_false.mp hr
    simp [pauseDue, resumeByteDue, hp, hr]

theorem due_of_request (hx : s.params.xonxoffEnable = true) (hr : s.flowCtrl.isRequest = true) :
    (pauseDue s || resumeByteDue s) = true := by
  rw [Bool.or_eq_true]
  exact (FlowCtrl.isRequest_eq_true.mp hr).imp (fun h => pauseDue_eq_true.mpr ⟨hx, h⟩)
    fun h => resumeByteDue_eq_true.mpr ⟨hx, h⟩

theorem ringPop_tx_of_data (he : ¬RingEmpty .tx s) (ht : s.tx.tail < s.params.txN) :
    ringPop .tx s = .next (some (s.slot .tx s.tx.tail), afterPop .tx s) :=
  ringPop_of_some (isEmpty_eq_false_iff.mpr he) ht

/-! ## TX.DATA -/

theorem execTxData_of_due (h : (pauseDue s || resumeByteDue s) = true) : execTxData v s = .next s :=
  if_pos h

/-- Where the pop answers another byte or none, nothing happens, whether or not a control byte is due. -/
theorem execTxData_of_pop_ne {r : Option Byte × State} (hpop : ringPop .tx s = .next r) (hv : r.1 ≠ some v) :
    execTxData v s = .next s := by
  simp only [execTxData, hpop, andThen_next, if_neg hv, ite_self]

theorem execTxData_of_empty (he : RingEmpty .tx s) : execTxData v s = .next s :=
  execTxData_of_pop_ne (ringPop_of_empty (RingQueue.isEmpty_iff.mpr he)) (Option.some_ne_none v).symm

theorem execTxData_of_oldest (hp : pauseDue s = false) (hr : resumeByteDue s = false) (he : ¬RingEmpty .tx s)
    (ht : s.tx.tail < s.params.txN) :
    execTxData (s.slot .tx s.tx.tail) s = .next (hardwareSend (s.slot .tx s.tx.tail) (afterPop .tx s)) := by
  rw [execTxData, hp, hr, ringPop_tx_of_data he ht, andThen_next, if_pos rfl]
  rfl

theorem execTxData_of_ne_oldest (hv : v ≠ s.slot .tx s.tx.tail) (ht : s.tx.tail < s.params.txN) :
    execTxData v s = .next s := by
  by_cases he : RingEmpty .tx s
  · exact execTxData_of_empty he
  · exact execTxData_of_pop_ne (ringPop_tx_of_data he ht) fun h => hv (Option.some.inj h).symm

/-- Settles O29: with no control byte due, the pop answers the byte at the tail, and that byte alone is sent. -/
theorem dataBytesAreSentFromTheTail : Obligations.DataBytesAreSentFromTheTail := by
  intro s v ht
  constructor
  · rintro he rfl hno
    obtain ⟨hp, hr⟩ := not_due_of_no_request hno
    exact execTxData_of_oldest hp hr he ht
  · rintro (he | hv | ⟨hx, hr⟩)
    · exact execTxData_of_empty he
    · exact execTxData_of_ne_oldest hv ht
    · exact execTxData_of_due (due_of_request hx hr)

/-! ## on_tx_ready -/

theorem transmit_of_pause (h : pauseDue s = true) : transmit s = .next (sendPause s) :=
  if_pos h

theorem transmit_of_resume (hp : pauseDue s = false) (hr : resumeByteDue s = true) :
    transmit s = .next (sendResume s) := by
  rw [transmit, if_neg (ne_true_of_eq_false hp), if_pos hr]

theorem transmit_of_no_control (hp : pauseDue s = false) (hr : resumeByteDue s = false) : transmit s = sendData s := by
  rw [transmit, if_neg (ne_true_of_eq_false hp), if_neg (ne_true_of_eq_false hr)]

theorem sendData_of_empty (he : RingEmpty .tx s) : sendData s = .next s := by
  rw [sendData, ringPop_of_empty (RingQueue.isEmpty_iff.mpr he)]
  rfl

theorem sendData_of_data (he : ¬RingEmpty .tx s) (ht : s.tx.tail < s.params.txN) :
    sendData s = .next (hardwareSend (s.slot .tx s.tx.tail) (afterPop .tx s)) := by
  rw [sendData, ringPop_tx_of_data he ht]
  rfl

/-- From an armed state, the interrupt stays armed exactly where TX is not empty (R171). -/
theorem disarmIfEmpty_of_armed (ha : s.txIrqEn = true) :
    disarmIfEmpty s = { s with txIrqEn := decide (s.tx.head ≠ s.tx.tail) } := by
  by_cases he : s.tx.head = s.tx.tail
  · have hempty : s.isEmpty .tx = true := RingQueue.isEmpty_iff.mpr he
    rw [disarmIfEmpty, if_pos hempty, decide_eq_false (not_not.mpr he)]
    rfl
  · have hdata : s.isEmpty .tx = false := isEmpty_eq_false_iff.mpr he
    rw [disarmIfEmpty, if_neg (ne_true_of_eq_false hdata), decide_eq_true he, ← ha]

/-- `on_tx_ready`, invoked armed, disarms after what it sends, where that leaves TX empty. -/
theorem exec_onTxReady {u : State} (hi : s.invocable .onTxReady = true) (h : transmit s = .next u)
    (ha : u.txIrqEn = true) :
    exec .onTxReady s = .next { u with txIrqEn := decide (u.tx.head ≠ u.tx.tail) } := by
  refine (takeInterrupt_of_invocable onTxReady hi).trans ?_
  rw [onTxReady, h, andThen_next, disarmIfEmpty_of_armed ha]

/-- Settles O49: a control byte due goes first, then the oldest queued byte, then nothing. -/
theorem onTxReadySendsOneByte : Obligations.OnTxReadySendsOneByte := by
  intro s hu ha hready ht
  have hi : s.invocable .onTxReady = true := by simp [State.invocable, State.enabled, State.pending, hu, ha, hready]
  refine ⟨fun hx hf => ?pause, fun hx hf => ?resume, fun hno => ⟨fun he => ?data, fun he => ?empty⟩,
    fun other i => slot_setTail other _ i⟩
  case pause => exact exec_onTxReady hi (transmit_of_pause (pauseDue_eq_true.mpr ⟨hx, hf⟩)) ha
  case resume =>
    have hp : pauseDue s = false := by simp [pauseDue, hf]
    exact exec_onTxReady hi (transmit_of_resume hp (resumeByteDue_eq_true.mpr ⟨hx, hf⟩)) ha
  case data =>
    obtain ⟨hp, hr⟩ := not_due_of_no_request hno
    exact exec_onTxReady hi ((transmit_of_no_control hp hr).trans (sendData_of_data he ht)) ha
  case empty =>
    obtain ⟨hp, hr⟩ := not_due_of_no_request hno
    refine (exec_onTxReady hi ((transmit_of_no_control hp hr).trans (sendData_of_empty he)) ha).trans ?_
    rw [decide_eq_false (p := s.tx.head ≠ s.tx.tail) (not_not.mpr he)]

end Sys2Proof.Proofs.Handlers
end

section
/-!
PROOFS. The block's interface to the outside: the outward calls (R181 to R186) and ENV's moves (R191, R233).
-/

namespace Sys2Proof.Proofs.HalInterface
open Sys2Proof Sys2Proof.Machine

variable {s : State} {b : Byte} {rest : List Byte}

/-! ## hardware_receive_byte -/

theorem hardwareReceive_of_cons (hw : s.wireIn = b :: rest) :
    hardwareReceive s = (b, { s with wireIn := rest }) := by
  rw [hardwareReceive, hw]

theorem hardwareReceive_of_nil (hw : s.wireIn = []) :
    hardwareReceive s = (Config.freeReceived s.draws, { s with draws := s.draws + 1 }) := by
  rw [hardwareReceive, hw]

theorem exec_hardwareReceiveByte (s : State) :
    exec .hardwareReceiveByte s = .next ((hardwareReceive s).2.record (.byte (hardwareReceive s).1)) := rfl

/-- Settles O50: five of the calls are one update of one field; `hardware_receive_byte` answers the first byte received,
or a free value where there is none. -/
theorem outwardCallsHaveTheirEffects : Obligations.OutwardCallsHaveTheirEffects := by
  intro s baud v
  refine ⟨rfl, rfl, fun b rest hw => ?received, fun hw => ⟨Config.freeReceived s.draws, s.draws + 1, ?free⟩, rfl, rfl, rfl⟩
  case received =>
    rw [exec_hardwareReceiveByte, hardwareReceive_of_cons hw]
    rfl
  case free =>
    rw [exec_hardwareReceiveByte, hardwareReceive_of_nil hw]
    rfl

/-! ## ENV -/

theorem envReceive_of_live (hu : s.uart.isSome = true) : envReceive b s = { s with wireIn := s.wireIn ++ [b] } :=
  if_pos hu

theorem envReceive_of_not_live (hu : s.uart = none) : envReceive b s = s := by
  rw [envReceive, hu]
  rfl

/-- Settles O51: a byte reaches the wire exactly where `init` has returned, and the two inputs are driven in any state. -/
theorem environmentMovesAreItsInputsOnly : Obligations.EnvironmentMovesAreItsInputsOnly :=
  fun _ _ _ => ⟨fun hu => congrArg Host.Outcome.next (envReceive_of_live hu),
    fun hu => congrArg Host.Outcome.next (envReceive_of_not_live hu), rfl, rfl⟩

end Sys2Proof.Proofs.HalInterface
end

section
/-!
PROOFS. What the moves return to callers (R35, R203, R204): only a micro-step of MAIN returns a value, and each value
has its own micro-step.
-/

namespace Sys2Proof.Proofs.Returns
open Sys2Proof Sys2Proof.Machine Sys2Proof.Claims
open Sys2Proof.Proofs.MicroSteps Sys2Proof.Proofs.MicroStepClauses Sys2Proof.Proofs.Queues

variable {s t : State}

/-- `MainAnswer s r`: the micro-step MAIN takes from `s` can return `r`. -/
inductive MainAnswer (s : State) : Result → Prop where
  | done (hl : s.main.mstep = some .w6) : MainAnswer s .done
  | aborted (hl : s.main.mstep = some .w3) (ha : s.abort = true) : MainAnswer s .aborted
  | data {d} (hd : heldByte s.main = some d) : MainAnswer s (.data d)
  | noData (hl : s.main.mstep = some .rd1) (he : RingEmpty .rx s) : MainAnswer s .noData
  | flags {m} (hm : s.main = .atRt m) : MainAnswer s (.flags (rtTested m s))

/-- A micro-step returns nothing, or one value. -/
theorem mainStep_returns (h : mainStep s = .next t) :
    t.returns = s.returns ∨ ∃ r, t.returns = s.returns ++ [r] ∧ MainAnswer s r := by
  cases microStepTaken_of_mainStep h with
  | w3Abort hm ha => exact .inr ⟨_, rfl, .aborted (by rw [hm]; rfl) ha⟩
  | w6 hm => exact .inr ⟨_, rfl, .done (by rw [hm]; rfl)⟩
  | rd1Empty hm he => exact .inr ⟨_, rfl, .noData (by rw [hm]; rfl) he⟩
  | rd3End hm | rd5End hm | rd6 hm => exact .inr ⟨_, rfl, .data (by rw [hm]; rfl)⟩
  | rt hm => exact .inr ⟨_, rfl, .flags hm⟩
  | idle | init | w1 | w2Space | w2Full | w3Again | w4 | w5 | rd1Data | rd2 | rd3Flow | rd4 | rd5Request | rs1
  | rs2Flow | rs2End | rs3 => exact .inl rfl

/-- No move but MAIN's returns a value. -/
theorem perform_returns_of_ne_main {m : Move} (hm : m ≠ .main) (h : perform m s = .next t) : t.returns = s.returns := by
  cases m with
  | start op =>
    obtain ⟨-, rfl⟩ := startOp_eq_next h
    rfl
  | main => exact absurd rfl hm
  | irqRx =>
    rcases takeInterrupt_eq_next h with ⟨hi, h⟩ | ⟨-, rfl⟩
    · exact (onRxReady_stands h hi).returns
    · rfl
  | irqTx =>
    rcases takeInterrupt_eq_next h with ⟨-, h⟩ | ⟨-, rfl⟩
    · exact (onTxReady_stands h).returns
    · rfl
  | envRx b =>
    cases h
    exact (envReceive_stands b s .rx).returns
  | envTxReady | envAbort =>
    cases h
    rfl

/-- A move that returns `r` is a micro-step of MAIN that can. -/
theorem mainAnswer_of_returns {m : Move} {r : Result} (h : perform m s = .next t) (hr : t.returns = s.returns ++ [r]) :
    m = .main ∧ MainAnswer s r := by
  by_cases hm : m = .main
  · subst hm
    rcases mainStep_returns h with hnone | ⟨r', hr', hanswer⟩
    · simp [hnone] at hr
    · obtain rfl : r' = r := by simpa [hr'] using hr
      exact ⟨rfl, hanswer⟩
  · simp [perform_returns_of_ne_main hm h] at hr

/-- Settles O41: the branch of W3 with `abort` returns Aborted, and no other branch of MAIN does. -/
theorem abortedOnlyFromTheWaitLoop : Obligations.AbortedOnlyFromTheWaitLoop := by
  refine fun s => ⟨fun b nh t hm ha => perform_main (.w3Abort hm ha), fun m t h hr => ?_⟩
  obtain ⟨hm, hanswer⟩ := mainAnswer_of_returns h hr
  cases hanswer with
  | aborted hl ha => exact ⟨hm, hl, ha⟩

/-- Settles O42: the branch of Rd1 with RX empty returns NoData, and no other branch of MAIN does. -/
theorem noDataOnlyFromAnEmptyBuffer : Obligations.NoDataOnlyFromAnEmptyBuffer := by
  refine fun s => ⟨fun hm he => perform_main (.rd1Empty hm he), fun m t h hr => ?_⟩
  obtain ⟨hm, hanswer⟩ := mainAnswer_of_returns h hr
  cases hanswer with
  | noData hl he => exact ⟨hm, hl, he⟩

end Sys2Proof.Proofs.Returns
end

section
/-!
PROOFS. Where a handler does nothing: not invocable (R206 to R208, R232), or, but for the byte it reads, with a byte to
forward and RX full (R201).
-/

namespace Sys2Proof.Proofs.SilentHandlers
open Sys2Proof Sys2Proof.Machine Sys2Proof.Claims Sys2Proof.Proofs.Encoding Sys2Proof.Proofs.Handlers

variable {s : State}

/-- Settles O48: no command byte is read, so the byte is forwarded, and RX is as full without the byte on the wire. -/
theorem overflowDropsInSilence : Obligations.OverflowDropsInSilence := by
  intro s b rest hu hw hf hno
  have hf' : RingFull .rx { s with wireIn := rest } := hf
  rw [exec_onRxReady hu hw, rxInstr_of_noCommand hno]
  exact forward_of_full hf'

theorem onRxReady_not_invocable (h : s.uart = none ∨ s.wireIn = []) : s.invocable .onRxReady = false := by
  rcases h with hu | hw
  · simp [State.invocable, State.enabled, hu]
  · simp [State.invocable, State.pending, hw]

theorem onTxReady_not_invocable (h : s.uart = none ∨ s.txIrqEn = false ∨ s.txReady = false) :
    s.invocable .onTxReady = false := by
  rcases h with hu | hen | hready
  · simp [State.invocable, State.enabled, hu]
  · simp [State.invocable, State.enabled, hen]
  · simp [State.invocable, State.pending, hready]

/-- Settles O53: each missing condition makes the handler not invocable, and the arbiter then leaves the state alone. -/
theorem handlersRunOnlyWhenInvocable : Obligations.HandlersRunOnlyWhenInvocable := by
  refine fun s => ⟨fun h => ?rx, fun h => ?tx⟩
  case rx =>
    have hi := onRxReady_not_invocable h
    exact ⟨takeInterrupt_of_not onRxReady hi, takeInterrupt_of_not onRxReady hi⟩
  case tx =>
    have hi := onTxReady_not_invocable h
    exact ⟨takeInterrupt_of_not onTxReady hi, takeInterrupt_of_not onTxReady hi⟩

end Sys2Proof.Proofs.SilentHandlers
end

section
/-!
PROOFS. The writers of every field (R214, R216, R220): what each agent's moves leave as it was.
-/

namespace Sys2Proof.Proofs.FieldWriters
open Sys2Proof Sys2Proof.Machine
open Sys2Proof.Proofs.Latch Sys2Proof.Proofs.Sending Sys2Proof.Proofs.Queues Sys2Proof.Proofs.HalInterface

variable {s t u : State}

/-! ## on_rx_ready -/

/-- What `on_rx_ready` leaves beside TX, MAIN and the bytes sent (`onRxReady_stands`, `onRxReady_wireOut`); it only
arms. -/
structure RxHandlerFrame (s t : State) : Prop where
  tail : t.rx.tail = s.rx.tail
  txReady : t.txReady = s.txReady
  abort : t.abort = s.abort
  uart : t.uart = s.uart
  arms : s.txIrqEn = true → t.txIrqEn = true

theorem applyEffect_frame (e : Effect) (s : State) : RxHandlerFrame s (applyEffect e s) := by
  cases e <;> exact ⟨rfl, rfl, rfl, rfl, id⟩

theorem forward_frame {b : Byte} (h : forward b s = .next t) : RxHandlerFrame s t := by
  rcases forward_eq_next h with ⟨-, rfl⟩ | ⟨-, -, rfl⟩
  · exact ⟨rfl, rfl, rfl, rfl, id⟩
  rcases pauseEvaluation_cases (s.setRing .rx (s.rx.pushed s.params.rxN b)) with ⟨-, -, -, he⟩ | ⟨-, he⟩ <;> rw [he]
  · exact ⟨rfl, rfl, rfl, rfl, fun _ => rfl⟩
  · exact ⟨rfl, rfl, rfl, rfl, id⟩

theorem onRxReady_frame (h : onRxReady s = .next t) (hi : s.invocable .onRxReady = true) : RxHandlerFrame s t := by
  obtain ⟨b, rest, -, hcase⟩ := onRxReady_eq_next h hi
  have hread : RxHandlerFrame { s with wireIn := rest } t := by
    rcases hcase with ⟨e, -, rfl⟩ | ⟨-, hf⟩
    · exact applyEffect_frame e _
    · exact forward_frame hf
  obtain ⟨htail, hready, habort, huart, harms⟩ := hread
  exact ⟨htail, hready, habort, huart, harms⟩

/-! ## on_tx_ready -/

/-- What `on_tx_ready` leaves beside RX, MAIN and the latch (`onTxReady_stands`, `onTxReady_rtPending`); it only
disarms. -/
structure TxHandlerFrame (s t : State) : Prop where
  head : t.tx.head = s.tx.head
  storage : t.tx.storage = s.tx.storage
  wireIn : t.wireIn = s.wireIn
  resetCalls : t.resetCalls = s.resetCalls
  txReady : t.txReady = s.txReady
  abort : t.abort = s.abort
  uart : t.uart = s.uart
  disarms : t.txIrqEn = true → s.txIrqEn = true

theorem disarmIfEmpty_frame (h : TxHandlerFrame s u) : TxHandlerFrame s (disarmIfEmpty u) := by
  unfold disarmIfEmpty
  split
  · obtain ⟨hhead, hstorage, hin, hcalls, hready, habort, huart, -⟩ := h
    exact ⟨hhead, hstorage, hin, hcalls, hready, habort, huart, nofun⟩
  · exact h

theorem onTxReady_frame (h : onTxReady s = .next t) : TxHandlerFrame s t := by
  obtain ⟨u, rfl, hu⟩ := onTxReady_eq_next h
  refine disarmIfEmpty_frame ?_
  rcases hu with ⟨-, rfl⟩ | ⟨-, -, rfl⟩ | ⟨-, -, -, rfl⟩ | ⟨-, -, -, -, rfl⟩ <;>
    exact ⟨rfl, rfl, rfl, rfl, rfl, rfl, rfl, id⟩

/-! ## ENV -/

/-- A byte that arrives moves the wire alone, if anything. -/
theorem envReceive_wireIn (b : Byte) (s : State) : ∃ w, envReceive b s = { s with wireIn := w } := by
  by_cases hu : s.uart = none
  · exact ⟨s.wireIn, envReceive_of_not_live hu⟩
  · exact ⟨s.wireIn ++ [b], envReceive_of_live (Option.isSome_iff_ne_none.mpr hu)⟩

/-! ## Every move -/

/-- Settles O55: MAIN's frame, the two handlers' frames, and ENV's three inputs. -/
theorem everyFieldHasItsWriters : Obligations.EveryFieldHasItsWriters := by
  intro m s t h
  refine ⟨?main, ?rxHandler, ?txHandler, ?env⟩
  case main =>
    rintro (rfl | ⟨op, rfl⟩)
    · obtain ⟨hhead, hstorage, htail, hin, hout, hcalls, hready, habort, harms, -⟩ := mainStep_frame h
      exact ⟨hhead, hstorage, htail, hin, hout, hcalls, hready, habort, harms⟩
    · obtain ⟨-, rfl⟩ := startOp_eq_next h
      exact ⟨rfl, rfl, rfl, rfl, rfl, rfl, rfl, rfl, id⟩
  case rxHandler =>
    rintro rfl
    rcases takeInterrupt_eq_next h with ⟨hi, h⟩ | ⟨-, rfl⟩
    · obtain ⟨-, htx, hmain, hreturns⟩ := onRxReady_stands h hi
      obtain ⟨htail, hready, habort, huart, harms⟩ := onRxReady_frame h hi
      exact ⟨htail, htx, hmain, hreturns, onRxReady_wireOut h hi, hready, habort, huart, harms⟩
    · exact ⟨rfl, rfl, rfl, rfl, rfl, rfl, rfl, rfl, id⟩
  case txHandler =>
    rintro rfl
    rcases takeInterrupt_eq_next h with ⟨-, h⟩ | ⟨-, rfl⟩
    · obtain ⟨-, hrx, hmain, hreturns⟩ := onTxReady_stands h
      obtain ⟨hhead, hstorage, hin, hcalls, hready, habort, huart, hdisarms⟩ := onTxReady_frame h
      exact ⟨hhead, hstorage, hrx, hmain, hreturns, onTxReady_rtPending h, hin, hcalls, hready, habort, huart,
        hdisarms⟩
    · exact ⟨rfl, rfl, rfl, rfl, rfl, rfl, rfl, rfl, rfl, rfl, rfl, id⟩
  case env =>
    rintro (⟨b, rfl⟩ | ⟨v, rfl⟩ | ⟨v, rfl⟩)
    · obtain ⟨w, hw⟩ := envReceive_wireIn b s
      exact ⟨w, s.txReady, s.abort, (Host.Outcome.next.inj h).symm.trans hw⟩
    · exact ⟨s.wireIn, v, s.abort, (Host.Outcome.next.inj h).symm⟩
    · exact ⟨s.wireIn, s.txReady, v, (Host.Outcome.next.inj h).symm⟩

end Sys2Proof.Proofs.FieldWriters
end

section
/-!
PROOFS. The armed rules (R123, R246): every step keeps the TX-ready interrupt armed while data is queued or a request is
pending, and so a quiescent state is drained (R265).
-/

namespace Sys2Proof.Proofs.InterruptArmed
open Sys2Proof Sys2Proof.Machine
open Sys2Proof.Proofs.MicroSteps Sys2Proof.Proofs.Invariant Sys2Proof.Proofs.ScriptStep Sys2Proof.Proofs.FaultFree
open Sys2Proof.Proofs.Sending Sys2Proof.Proofs.RingQueue Sys2Proof.Proofs.Queues Sys2Proof.Proofs.FlowCycle

variable {s t : State}

/-! ## What keeps the rules -/

theorem armed_of_txIrqEn (h : s.txIrqEn = true) : s.Armed :=
  ⟨fun _ _ => h, fun _ _ => h⟩

/-- MAIN stands, nothing is queued into an empty TX, nothing is requested, and nothing is disarmed. -/
theorem armed_of_frame (ha : s.Armed) (hm : t.main = s.main) (hq : t.tx.head ≠ t.tx.tail → s.tx.head ≠ s.tx.tail)
    (hr : t.flowCtrl.isRequest = true → s.flowCtrl.isRequest = true) (hen : t.txIrqEn = s.txIrqEn) : t.Armed := by
  obtain ⟨hqueued, hrequested⟩ := ha
  unfold State.Armed State.betweenW5W6 State.betweenRd5Rd6
  rw [hm, hen]
  exact ⟨fun q => hqueued (hq q), fun r => hrequested (hr r)⟩

/-- MAIN has no arming before it: it is neither between W5 and W6 nor between Rd5 and Rd6. -/
structure NoArmingAhead (s : State) : Prop where
  published : s.betweenW5W6 = false
  requested : s.betweenRd5Rd6 = false

theorem noArmingAhead_of_main {m : MainState} (hm : s.main = m) (hw : m.mstep ≠ some .w6)
    (hrd : m.mstep ≠ some .rd6) : NoArmingAhead s := by
  subst hm
  exact ⟨beq_eq_false_iff_ne.mpr hw, beq_eq_false_iff_ne.mpr hrd⟩

/-- MAIN moves with no arming before it. What it newly queues or requests, it goes on to arm for. -/
theorem armed_of_main_moves (ha : s.Armed) (hno : NoArmingAhead s)
    (hq : t.tx.head ≠ t.tx.tail → t.betweenW5W6 = false → s.tx.head ≠ s.tx.tail)
    (hr : t.flowCtrl.isRequest = true → t.betweenRd5Rd6 = false → s.flowCtrl.isRequest = true)
    (hen : t.txIrqEn = s.txIrqEn) : t.Armed := by
  obtain ⟨hqueued, hrequested⟩ := ha
  exact ⟨fun q w => hen.trans (hqueued (hq q w) hno.published),
    fun r d => hen.trans (hrequested (hr r d) hno.requested)⟩

/-! ## MAIN -/

/-- W5 publishes and W6 arms; Rd5 requests and Rd6 arms; the forced go ends a request; nothing else bears on the
rules. -/
theorem mainStep_armed (ha : s.Armed) (h : mainStep s = .next t) : t.Armed := by
  cases microStepTaken_of_mainStep h with
  | idle => exact ha
  | w6 | rd6 => exact armed_of_txIrqEn rfl
  | w5 hm =>
    exact armed_of_main_moves ha (noArmingAhead_of_main hm nofun nofun) (fun _ hw => nomatch hw) (fun r _ => r) rfl
  | rd5Request hm =>
    exact armed_of_main_moves ha (noArmingAhead_of_main hm nofun nofun) (fun q _ => q) (fun _ hd => nomatch hd) rfl
  | rs3 hm =>
    exact armed_of_main_moves ha (noArmingAhead_of_main hm nofun nofun) (fun q _ => q) (fun r _ => nomatch r) rfl
  | init hm | w1 hm | w2Space hm | w2Full hm | w3Abort hm | w3Again hm | w4 hm | rd1Empty hm | rd1Data hm | rd2 hm
  | rd3Flow hm | rd3End hm | rd4 hm | rd5End hm | rs1 hm | rs2Flow hm | rs2End hm | rt hm =>
    exact armed_of_main_moves ha (noArmingAhead_of_main hm nofun nofun) (fun q _ => q) (fun r _ => r) rfl

theorem mainRun_armed (ha : s.Armed) (h : MainRun s t) : t.Armed := by
  induction h with
  | refl => exact ha
  | tail _ hstep ih => exact mainStep_armed ih hstep

theorem startOp_armed {op : MainOp} (ha : s.Armed) (h : startOp op s = .next t) : t.Armed := by
  obtain ⟨hm, rfl⟩ := startOp_eq_next h
  exact armed_of_main_moves ha (noArmingAhead_of_main hm nofun nofun) (fun q _ => q) (fun r _ => r) rfl

theorem wholeOp_armed {op : MainOp} {n : Nat} (ha : s.Armed) (h : wholeOp op n s = .next t) : t.Armed := by
  obtain ⟨u, hu, hr⟩ := andThen_eq_next.mp h
  exact mainRun_armed (startOp_armed ha hu) (mainRun_of_runMain hr)

/-! ## on_rx_ready -/

theorem applyEffect_armed (e : Effect) (ha : s.Armed) : (applyEffect e s).Armed := by
  cases e <;> exact ha

/-- A pause request arms. -/
theorem forward_armed {b : Byte} (ha : s.Armed) (h : forward b s = .next t) : t.Armed := by
  rcases forward_eq_next h with ⟨-, rfl⟩ | ⟨-, -, rfl⟩
  · exact ha
  rcases pauseEvaluation_cases (s.setRing .rx (s.rx.pushed s.params.rxN b)) with ⟨-, -, -, he⟩ | ⟨-, he⟩ <;> rw [he]
  · exact armed_of_txIrqEn rfl
  · exact ha

theorem irqRx_armed (ha : s.Armed) (h : takeInterrupt .onRxReady onRxReady s = .next t) : t.Armed := by
  rcases takeInterrupt_eq_next h with ⟨hi, h⟩ | ⟨-, rfl⟩
  · obtain ⟨b, rest, -, ⟨e, -, rfl⟩ | ⟨-, hf⟩⟩ := onRxReady_eq_next h hi
    · exact applyEffect_armed (s := { s with wireIn := rest }) e ha
    · exact forward_armed (s := { s with wireIn := rest }) ha hf
  · exact ha

/-! ## on_tx_ready -/

/-- The pause byte sent, its request is acknowledged. -/
theorem sendPause_armed (ha : s.Armed) : (sendPause s).Armed :=
  armed_of_frame ha rfl id nofun rfl

/-- The resume byte sent, its request is acknowledged. -/
theorem sendResume_armed (ha : s.Armed) : (sendResume s).Armed :=
  armed_of_frame ha rfl id nofun rfl

/-- The oldest byte is taken from a TX that held data and sent. -/
theorem sendOldest_armed (ha : s.Armed) (v : Byte) (hne : s.tx.head ≠ s.tx.tail) :
    (hardwareSend v (s.setRing .tx (s.tx.popped s.params.txN))).Armed :=
  armed_of_frame ha rfl (fun _ => hne) id rfl

/-- With no request pending, an empty TX may be disarmed. -/
theorem disarmIfEmpty_armed (ha : s.Armed) (hr : s.flowCtrl.isRequest = false) : (disarmIfEmpty s).Armed := by
  unfold disarmIfEmpty
  split
  case isTrue he =>
    exact ⟨absurd (isEmpty_iff.mp he), fun h => absurd (hr.symm.trans h) Bool.false_ne_true⟩
  case isFalse => exact ha

/-- On the data path no request is pending: without flow control the register is held in the go state (D30). -/
theorem no_request_of_flowHeld (hf : s.flowHeld) (hp : pauseDue s = false) (hr : resumeByteDue s = false) :
    s.flowCtrl.isRequest = false := by
  rcases no_request_of_not_due hp hr with hx | hno
  · rw [hf hx]
    rfl
  · exact hno

/-- The empty test comes after the request, if there was one, has been acknowledged. -/
theorem onTxReady_armed (hf : s.flowHeld) (ha : s.Armed) (h : onTxReady s = .next t) : t.Armed := by
  obtain ⟨u, rfl, hu⟩ := onTxReady_eq_next h
  rcases hu with ⟨-, rfl⟩ | ⟨-, -, rfl⟩ | ⟨hp, hr, -, rfl⟩ | ⟨hp, hr, hne, -, rfl⟩
  · exact disarmIfEmpty_armed (sendPause_armed ha) rfl
  · exact disarmIfEmpty_armed (sendResume_armed ha) rfl
  · exact disarmIfEmpty_armed ha (no_request_of_flowHeld hf hp hr)
  · exact disarmIfEmpty_armed (sendOldest_armed ha _ hne) (no_request_of_flowHeld hf hp hr)

theorem irqTx_armed (hf : s.flowHeld) (ha : s.Armed) (h : takeInterrupt .onTxReady onTxReady s = .next t) :
    t.Armed := by
  rcases takeInterrupt_eq_next h with ⟨-, h⟩ | ⟨-, rfl⟩
  · exact onTxReady_armed hf ha h
  · exact ha

/-! ## The transmitted bytes and the ring primitives as instructions -/

theorem execTxPause_armed (ha : s.Armed) (h : execTxPause s = .next t) : t.Armed := by
  unfold execTxPause at h
  split at h <;> cases h
  · exact sendPause_armed ha
  · exact ha

theorem execTxResume_armed (ha : s.Armed) (h : execTxResume s = .next t) : t.Armed := by
  unfold execTxResume at h
  split at h <;> cases h
  · exact sendResume_armed ha
  · exact ha

theorem execTxData_armed {v : Byte} (ha : s.Armed) (h : execTxData v s = .next t) : t.Armed := by
  rcases execTxData_eq_next h with rfl | ⟨-, -, hne, -, -, rfl⟩
  · exact ha
  · exact sendOldest_armed ha v hne

/-- The rules do not speak of RX. -/
theorem execTryPush_rx_armed {b : Byte} (ha : s.Armed) (h : execTryPush .rx b s = .next t) : t.Armed := by
  obtain ⟨-, h⟩ := inContext_eq_next h
  obtain ⟨r, hr, ht⟩ := andThen_eq_next.mp h
  cases ht
  rcases ringPush_eq_next hr with ⟨-, rfl⟩ | ⟨-, -, rfl⟩ <;> exact ha

theorem execTryPop_armed {buf : Buffer} (ha : s.Armed) (h : execTryPop buf s = .next t) : t.Armed := by
  obtain ⟨r, hr, rfl⟩ := execTryPop_eq_next h
  rcases ringPop_eq_next hr with ⟨-, rfl⟩ | ⟨he, -, rfl⟩
  · exact ha
  cases buf with
  | rx => exact ha
  | tx => exact armed_of_frame ha rfl (fun _ => isEmpty_eq_false_iff.mp he) id rfl

theorem execReset_armed {buf : Buffer} (ha : s.Armed) (h : execReset buf s = .next t) : t.Armed := by
  obtain ⟨-, h⟩ := inContext_eq_next h
  cases h
  cases buf with
  | rx => exact ha
  | tx => exact armed_of_frame ha rfl (absurd rfl) id rfl

theorem hardwareReceive_armed (ha : s.Armed) : (hardwareReceive s).2.Armed := by
  unfold hardwareReceive
  split <;> exact ha

/-! ## Every instruction, every move, every step -/

/-- Every instruction but the two calls that no agent makes on its own (R221). -/
theorem exec_armed {i : Instr} (hf : s.flowHeld) (ha : s.Armed) (hdisable : i ≠ .disableTxInterrupt)
    (hpush : ∀ b, i ≠ .tryPush .tx b) (h : exec i s = .next t) : t.Armed := by
  cases i with
  | rxStatusReport | rxCycleStart | rxFeedHold | rxSafetyDoor | rxReset =>
    cases h
    exact applyEffect_armed _ ha
  | rxForward b => exact forward_armed ha h
  | txPause => exact execTxPause_armed ha h
  | txResume => exact execTxResume_armed ha h
  | txData v => exact execTxData_armed ha h
  | init | writeByte | readByte | resetReadBuffer | rtTestAndClear => exact wholeOp_armed ha h
  | onRxReady => exact irqRx_armed ha h
  | onTxReady => exact irqTx_armed hf ha h
  | tryPush buf b =>
    cases buf with
    | rx => exact execTryPush_rx_armed ha h
    | tx => exact absurd rfl (hpush b)
  | tryPop buf => exact execTryPop_armed ha h
  | reset buf => exact execReset_armed ha h
  | disableTxInterrupt => exact absurd rfl hdisable
  | enableTxInterrupt =>
    cases h
    exact armed_of_txIrqEn rfl
  | hardwareReceiveByte =>
    cases h
    exact hardwareReceive_armed ha
  | occupancy | classify | configureUart | hardwareSendByte | invokeEmergencyReset =>
    -- the fields the rules speak of stand
    cases h
    exact ha

theorem envReceive_armed (b : Byte) (ha : s.Armed) : (envReceive b s).Armed := by
  unfold envReceive
  split <;> exact ha

theorem perform_armed {m : Move} (hf : s.flowHeld) (ha : s.Armed) (h : perform m s = .next t) : t.Armed := by
  cases m with
  | start op => exact startOp_armed ha h
  | main => exact mainStep_armed ha h
  | irqRx => exact irqRx_armed ha h
  | irqTx => exact irqTx_armed hf ha h
  | envRx b =>
    cases h
    exact envReceive_armed b ha
  | envTxReady | envAbort =>
    cases h
    exact ha

theorem runLine_armed {l : Line} (hf : s.flowHeld) (ha : s.Armed) (hl : ¬disarming s.params l)
    (h : runLine l s = .next t) : t.Armed := by
  cases l with
  | word bytes =>
    dsimp only [runLine] at h
    split at h
    case h_1 i hd =>
      exact exec_armed hf ha (fun e => hl (.inl (e ▸ hd))) (fun b e => hl (.inr ⟨b, e ▸ hd⟩)) h
    case h_2 => cases h
  | move m => exact perform_armed hf ha h
  | opTo op label =>
    obtain ⟨u, hu, hr⟩ := andThen_eq_next.mp h
    exact mainRun_armed (startOp_armed ha hu) (mainRun_of_runTo hr)
  | continueTo label => exact mainRun_armed ha (mainRun_of_runTo h)
  | continueRest => exact mainRun_armed ha (mainRun_of_runMain h)

theorem freeStep_armed (hf : s.flowHeld) (ha : s.Armed) (h : freeStep s = .next t) : t.Armed := by
  unfold freeStep at h
  dsimp only at h
  split at h
  · exact perform_armed (s := { s with draws := s.draws + 1 }) hf ha h
  · cases h
    exact ha

/-- Settles O14: MAIN arms for what it queues and requests, a pause request arms, and the TX handler disarms only with
TX empty and no request left. -/
theorem everyStepKeepsTheInterruptArmed : Obligations.EveryStepKeepsTheInterruptArmed := by
  intro s t hs ha hl h
  obtain ⟨hwf, -, -, -, -, hf⟩ := hs
  cases hscript : s.script with
  | nil =>
    rw [step_of_script_nil hwf hscript] at h
    exact freeStep_armed hf ha h
  | cons l rest =>
    rw [step_of_script hwf hscript] at h
    exact runLine_armed (s := { s with script := rest }) hf ha (hl l (by rw [hscript]; rfl)) h

/-! ## Quiescence -/

/-- With MAIN idle and the interrupt disarmed nothing is queued and no request is pending. -/
theorem drained_of_idle (ha : s.Armed) (hm : s.main = .idle) (hen : s.txIrqEn = false) :
    s.tx.head = s.tx.tail ∧ s.flowCtrl.isRequest = false := by
  obtain ⟨hqueued, hrequested⟩ := ha
  obtain ⟨hw, hd⟩ : NoArmingAhead s := noArmingAhead_of_main hm nofun nofun
  have hdisarmed : s.txIrqEn ≠ true := Bool.eq_false_iff.mp hen
  exact ⟨not_not.mp fun q => hdisarmed (hqueued q hw), Bool.eq_false_iff.mpr fun r => hdisarmed (hrequested r hd)⟩

/-- Settles O17: at the end of a run MAIN is idle, so a disarmed interrupt leaves nothing to send. -/
theorem quiescentStatesAreDrained : Obligations.QuiescentStatesAreDrained := by
  intro s _ ha hq hen
  obtain ⟨hm, -⟩ := hq
  obtain ⟨hempty, hno⟩ := drained_of_idle ha hm hen
  exact ⟨live_of_empty (buf := .tx) hempty, FlowCtrl.isRequest_eq_false.mp hno⟩

end Sys2Proof.Proofs.InterruptArmed
end

section
/-!
PROOFS. The refusal of illegal parameters (R234, U8): the check is the constraints of R6 to R10, and it is the only
source of the refusal.
-/

namespace Sys2Proof.Proofs.IllegalParameters
open Sys2Proof Sys2Proof.Machine

/-! ## The check -/

/-- The constraints of R6 to R10 and R234. -/
theorem wf_iff (p : Params) :
    p.wf = true ↔
      2 ≤ p.rxN ∧ 2 ≤ p.txN ∧
        (p.xonxoffEnable = true →
          1 ≤ p.lowWatermark ∧ p.lowWatermark < p.highWatermark ∧ p.highWatermark < p.rxN - 1) ∧
        [p.cmdStatusReport, p.cmdCycleStart, p.cmdFeedHold, p.cmdSafetyDoor, p.cmdReset].Nodup ∧
        p.pauseByte ≠ p.resumeByte ∧
        [p.bitStatusReport, p.bitCycleStart, p.bitFeedHold, p.bitSafetyDoor].Nodup := by
  have hcapacities : p.capacitiesOk = true ↔ 2 ≤ p.rxN ∧ 2 ≤ p.txN := by
    simp only [Params.capacitiesOk, Bool.and_eq_true, decide_eq_true_eq]
  have hwatermarks : p.watermarksOk = true ↔ (p.xonxoffEnable = true →
      1 ≤ p.lowWatermark ∧ p.lowWatermark < p.highWatermark ∧ p.highWatermark < p.rxN - 1) := by
    cases hx : p.xonxoffEnable <;> simp [Params.watermarksOk, hx, and_assoc]
  have hcommands : p.commandsOk = true ↔
      [p.cmdStatusReport, p.cmdCycleStart, p.cmdFeedHold, p.cmdSafetyDoor, p.cmdReset].Nodup := decide_eq_true_iff
  have hcontrols : p.controlsOk = true ↔ p.pauseByte ≠ p.resumeByte := bne_iff_ne
  have hpositions : p.positionsOk = true ↔
      [p.bitStatusReport, p.bitCycleStart, p.bitFeedHold, p.bitSafetyDoor].Nodup := decide_eq_true_iff
  rw [Params.wf, Bool.and_eq_true, Bool.and_eq_true, Bool.and_eq_true, Bool.and_eq_true, hcapacities, hwatermarks,
    hcommands, hcontrols, hpositions, and_assoc, and_assoc, and_assoc, and_assoc]

/-! ## What a line or a move refuses -/

/-- The outcome is not a refusal of the parameters. -/
def ParamsAccepted {α : Type} (x : Host.Outcome α Fault Refusal) : Prop :=
  x ≠ .refused .illegalParameters

section
variable {α β : Type}

theorem accepted_next (a : α) : ParamsAccepted (.next a) :=
  nofun

theorem accepted_fault (f : Fault) : ParamsAccepted (α := α) (.fault f) :=
  nofun

theorem accepted_ite {c : Prop} [Decidable c] {x y : Host.Outcome α Fault Refusal} (hx : ParamsAccepted x)
    (hy : ParamsAccepted y) : ParamsAccepted (if c then x else y) := by
  split
  · exact hx
  · exact hy

/-- A sequence refuses only in one of its two parts. -/
theorem ParamsAccepted.andThen {x : Host.Outcome α Fault Refusal} {k : α → Host.Outcome β Fault Refusal}
    (hx : ParamsAccepted x) (hk : ∀ a, ParamsAccepted (k a)) : ParamsAccepted (andThen x k) := by
  cases x with
  | next a => exact hk a
  | fault f => exact accepted_fault f
  | refused r => exact fun h => hx (congrArg Host.Outcome.refused (Host.Outcome.refused.inj h))

end

variable {s : State} {x : Out}

/-- A call out of its context is refused as busy. -/
theorem accepted_inContext (c : Context) (s : State) (hx : ParamsAccepted x) : ParamsAccepted (inContext c s x) := by
  unfold inContext
  split
  · exact hx
  · exact hx
  · exact nofun

theorem accepted_takeInterrupt {body : State → Out} (h : Handler) (hb : ParamsAccepted (body s)) :
    ParamsAccepted (takeInterrupt h body s) :=
  accepted_ite hb (accepted_next s)

theorem memWrite_accepted (buf : Buffer) (i : Nat) (b : Byte) (s : State) : ParamsAccepted (memWrite buf i b s) :=
  accepted_ite (accepted_next _) (accepted_fault _)

theorem memRead_accepted (buf : Buffer) (i : Nat) (s : State) : ParamsAccepted (memRead buf i s) :=
  accepted_ite (accepted_next _) (accepted_fault _)

theorem ringPush_accepted (buf : Buffer) (b : Byte) (s : State) : ParamsAccepted (ringPush buf b s) :=
  accepted_ite (accepted_next _) ((memWrite_accepted _ _ _ s).andThen fun _ => accepted_next _)

theorem ringPop_accepted (buf : Buffer) (s : State) : ParamsAccepted (ringPop buf s) :=
  accepted_ite (accepted_next _) ((memRead_accepted _ _ s).andThen fun _ => accepted_next _)

/-! ### MAIN -/

theorem mainStep_accepted (s : State) : ParamsAccepted (mainStep s) := by
  unfold mainStep
  cases s.main with
  | atW4 => exact (memWrite_accepted _ _ _ s).andThen fun _ => accepted_next _
  | atRd2 => exact (memRead_accepted _ _ s).andThen fun _ => accepted_next _
  | atW2 | atW3 | atRd1 | atRd3 | atRd5 | atRs2 => exact accepted_ite (accepted_next _) (accepted_next _)
  | idle | atInit | atW1 | atW5 | atW6 | atRd4 | atRd6 | atRs1 | atRs3 | atRt => exact accepted_next _

theorem runMain_accepted (n : Nat) (s : State) : ParamsAccepted (runMain n s) := by
  induction n generalizing s with
  | zero => exact accepted_next s
  | succ n ih =>
    unfold runMain
    split
    · exact accepted_next s
    · exact (mainStep_accepted s).andThen ih

theorem runTo_accepted (l : MicroStep) (n : Nat) (s : State) : ParamsAccepted (runTo l n s) := by
  induction n generalizing s with
  | zero => exact accepted_next s
  | succ n ih =>
    unfold runTo
    split
    · exact accepted_next s
    · exact (mainStep_accepted s).andThen fun t => accepted_ite (accepted_next t) (ih t)

theorem startOp_accepted (op : MainOp) (s : State) : ParamsAccepted (startOp op s) :=
  accepted_inContext .main s (accepted_next _)

theorem wholeOp_accepted (op : MainOp) (n : Nat) (s : State) : ParamsAccepted (wholeOp op n s) :=
  (startOp_accepted op s).andThen (runMain_accepted n)

/-! ### The handlers -/

theorem forward_accepted (b : Byte) (s : State) : ParamsAccepted (forward b s) :=
  (ringPush_accepted .rx b s).andThen fun _ => accepted_ite (accepted_next _) (accepted_next _)

theorem onRxReady_accepted (s : State) : ParamsAccepted (onRxReady s) := by
  unfold onRxReady applyAction
  split
  · exact accepted_next _
  · exact forward_accepted _ _

theorem sendData_accepted (s : State) : ParamsAccepted (sendData s) := by
  refine (ringPop_accepted .tx s).andThen fun r => ?_
  split <;> exact accepted_next _

theorem onTxReady_accepted (s : State) : ParamsAccepted (onTxReady s) :=
  (accepted_ite (accepted_next _) (accepted_ite (accepted_next _) (sendData_accepted s))).andThen
    fun _ => accepted_next _

/-! ### Every instruction, every move, every line -/

theorem exec_accepted (i : Instr) (s : State) : ParamsAccepted (exec i s) := by
  cases i with
  | rxForward b => exact forward_accepted b s
  | txPause | txResume => exact accepted_ite (accepted_next _) (accepted_next _)
  | txData v =>
    exact accepted_ite (accepted_next s)
      ((ringPop_accepted .tx s).andThen fun _ => accepted_ite (accepted_next _) (accepted_next _))
  | init | writeByte | readByte | resetReadBuffer | rtTestAndClear => exact wholeOp_accepted _ _ s
  | onRxReady => exact accepted_takeInterrupt _ (onRxReady_accepted s)
  | onTxReady => exact accepted_takeInterrupt _ (onTxReady_accepted s)
  | tryPush buf b => exact accepted_inContext _ s ((ringPush_accepted buf b s).andThen fun _ => accepted_next _)
  | tryPop buf => exact accepted_inContext _ s ((ringPop_accepted buf s).andThen fun _ => accepted_next _)
  | reset buf => exact accepted_inContext _ s (accepted_next _)
  | rxStatusReport | rxCycleStart | rxFeedHold | rxSafetyDoor | rxReset | occupancy | classify | configureUart
  | hardwareSendByte | hardwareReceiveByte | enableTxInterrupt | disableTxInterrupt | invokeEmergencyReset =>
    -- no refusal at all
    exact accepted_next _

theorem perform_accepted (m : Move) (s : State) : ParamsAccepted (perform m s) := by
  cases m with
  | start op => exact startOp_accepted op s
  | main => exact mainStep_accepted s
  | irqRx => exact accepted_takeInterrupt _ (onRxReady_accepted s)
  | irqTx => exact accepted_takeInterrupt _ (onTxReady_accepted s)
  | envRx | envTxReady | envAbort => exact accepted_next _

theorem runLine_accepted (l : Line) (s : State) : ParamsAccepted (runLine l s) := by
  cases l with
  | word bytes =>
    dsimp only [runLine]
    split
    · exact exec_accepted _ s
    · exact nofun
  | move m => exact perform_accepted m s
  | opTo op label => exact (startOp_accepted op s).andThen (runTo_accepted label scriptFuel)
  | continueTo label => exact runTo_accepted label scriptFuel s
  | continueRest => exact runMain_accepted scriptFuel s

theorem freeStep_accepted (s : State) : ParamsAccepted (freeStep s) :=
  accepted_ite (perform_accepted _ _) (accepted_next _)

/-- The check at the head of a step is the only source of the refusal. -/
theorem step_refuses_params_iff (s : State) : step s = .refused .illegalParameters ↔ ¬s.params.wf = true := by
  unfold step
  split
  case isFalse hwf => exact iff_of_true rfl hwf
  case isTrue hwf =>
    refine iff_of_false ?_ (not_not.mpr hwf)
    split
    · exact runLine_accepted _ _
    · exact freeStep_accepted s

/-- Settles O10: a step refuses exactly the parameters that fail the check, and the check is the constraints. -/
theorem illegalParametersAreRefused : Obligations.IllegalParametersAreRefused :=
  fun s => (step_refuses_params_iff s).trans (not_congr (wf_iff s.params))

end Sys2Proof.Proofs.IllegalParameters
end

section
/-!
PROOFS. The bare-byte form of a read (R84, R255).
-/

namespace Sys2Proof.Proofs.Sentinel
open Sys2Proof Sys2Proof.Machine

/-- Settles O52: the sentinel form answers the byte read for data and `NO_DATA` for an empty read. -/
theorem sentinelCannotTellNoDataFromItsOwnByte : Obligations.SentinelCannotTellNoDataFromItsOwnByte :=
  fun _ _ => ⟨Option.some_inj, nofun⟩

end Sys2Proof.Proofs.Sentinel
end
